-- ==== Sys2Proof/Word.lean ====
section
/-! DEFINITION. The widths of the 32-bit Nios CPU (00_scope.md rules R2, R3, R10): byte, half-word and word,
a visible register number, a control-register field. -/

namespace Sys2Proof

/-- An 8-bit quantity (R3). -/
abbrev Byte := BitVec 8

/-- A 16-bit quantity (R3); also the width of an instruction word (R120). -/
abbrev Half := BitVec 16

/-- A 32-bit quantity (R3): a general register, a byte address. -/
abbrev Word := BitVec 32

/-- The number 0..31 of a visible general register `%r0`..`%r31` (R30). -/
abbrev RegNum := BitVec 5

end Sys2Proof
end

