-- ==== Sys2Proof/Syntax.lean ====
section
/-! DEFINITION. The 70 instructions of the 32-bit Nios CPU (30_encoding.md rule R146), one constructor per row of
the opcode table, each operand at the width of its field (R122). `a`, `b` are the register fields A and B, `p` the
base-pointer field P, `imm` the immediate field, `cc` the condition code of SKPS. Bits 9..5 of AND, ANDN, OR, XOR are
a register number or, after a prefix, IMM5 (R134): the field `b` holds them in both readings. -/

namespace Sys2Proof

/-- An instruction (R120, R121). -/
inductive Instr where
  /-- ADD, format RR, rule R163 -/
  | add (a : RegNum) (b : RegNum)
  /-- ADDI, format Ri5, rule R164 -/
  | addi (a : RegNum) (imm : BitVec 5)
  /-- SUB, format RR, rule R165 -/
  | sub (a : RegNum) (b : RegNum)
  /-- SUBI, format Ri5, rule R166 -/
  | subi (a : RegNum) (imm : BitVec 5)
  /-- CMP, format RR, rule R167 -/
  | cmp (a : RegNum) (b : RegNum)
  /-- CMPI, format Ri5, rule R168 -/
  | cmpi (a : RegNum) (imm : BitVec 5)
  /-- LSL, format RR, rule R191 -/
  | lsl (a : RegNum) (b : RegNum)
  /-- LSLI, format Ri5, rule R192 -/
  | lsli (a : RegNum) (imm : BitVec 5)
  /-- LSR, format RR, rule R193 -/
  | lsr (a : RegNum) (b : RegNum)
  /-- LSRI, format Ri5, rule R194 -/
  | lsri (a : RegNum) (imm : BitVec 5)
  /-- ASR, format RR, rule R195 -/
  | asr (a : RegNum) (b : RegNum)
  /-- ASRI, format Ri5, rule R196 -/
  | asri (a : RegNum) (imm : BitVec 5)
  /-- MOV, format RR, rule R199 -/
  | mov (a : RegNum) (b : RegNum)
  /-- MOVI, format Ri5, rule R200 -/
  | movi (a : RegNum) (imm : BitVec 5)
  /-- AND, format RR, rule R169 -/
  | and (a : RegNum) (b : RegNum)
  /-- ANDN, format RR, rule R170 -/
  | andn (a : RegNum) (b : RegNum)
  /-- OR, format RR, rule R171 -/
  | or (a : RegNum) (b : RegNum)
  /-- XOR, format RR, rule R172 -/
  | xor (a : RegNum) (b : RegNum)
  /-- BGEN, format Ri5, rule R202 -/
  | bgen (a : RegNum) (imm : BitVec 5)
  /-- EXT8D, format RR, rule R206 -/
  | ext8d (a : RegNum) (b : RegNum)
  /-- SKP0, format Ri5, rule R254 -/
  | skp0 (a : RegNum) (imm : BitVec 5)
  /-- SKP1, format Ri5, rule R255 -/
  | skp1 (a : RegNum) (imm : BitVec 5)
  /-- LD, format RR, rule R221 -/
  | ld (a : RegNum) (b : RegNum)
  /-- ST, format RR, rule R224 -/
  | st (a : RegNum) (b : RegNum)
  /-- STS8S, format i10, rule R231 -/
  | sts8s (imm : BitVec 10)
  /-- STS16S, format i9, rule R232 -/
  | sts16s (imm : BitVec 9)
  /-- EXT16D, format RR, rule R208 -/
  | ext16d (a : RegNum) (b : RegNum)
  /-- MOVHI, format Ri5, rule R201 -/
  | movhi (a : RegNum) (imm : BitVec 5)
  /-- USR0, format RR, rule R311 -/
  | usr0 (a : RegNum) (b : RegNum)
  /-- EXT8S, format Ri2u, rule R207 -/
  | ext8s (a : RegNum) (imm : BitVec 2)
  /-- EXT16S, format Ri1u, rule R209 -/
  | ext16s (a : RegNum) (imm : BitVec 1)
  /-- ST8S, format Ri2u, rule R228 -/
  | st8s (a : RegNum) (imm : BitVec 2)
  /-- ST16S, format Ri1u, rule R230 -/
  | st16s (a : RegNum) (imm : BitVec 1)
  /-- SAVE, format i8v, rule R290 -/
  | save (imm : BitVec 8)
  /-- TRAP, format i6v, rule R292 -/
  | trap (imm : BitVec 6)
  /-- NOT, format Rw, rule R173 -/
  | not (a : RegNum)
  /-- NEG, format Rw, rule R174 -/
  | neg (a : RegNum)
  /-- ABS, format Rw, rule R175 -/
  | abs (a : RegNum)
  /-- SEXT8, format Rw, rule R204 -/
  | sext8 (a : RegNum)
  /-- SEXT16, format Rw, rule R205 -/
  | sext16 (a : RegNum)
  /-- RLC, format Rw, rule R197 -/
  | rlc (a : RegNum)
  /-- RRC, format Rw, rule R198 -/
  | rrc (a : RegNum)
  /-- SWAP, format Rw, rule R203 -/
  | swap (a : RegNum)
  /-- USR1, format Rw, rule R312 -/
  | usr1 (a : RegNum)
  /-- USR2, format Rw, rule R313 -/
  | usr2 (a : RegNum)
  /-- USR3, format Rw, rule R314 -/
  | usr3 (a : RegNum)
  /-- USR4, format Rw, rule R315 -/
  | usr4 (a : RegNum)
  /-- RESTORE, format w, rule R291 -/
  | restore
  /-- TRET, format Rw, rule R293 -/
  | tret (a : RegNum)
  /-- ST8D, format Rw, rule R227 -/
  | st8d (a : RegNum)
  /-- ST16D, format Rw, rule R229 -/
  | st16d (a : RegNum)
  /-- FILL8, format Rw, rule R210 -/
  | fill8 (a : RegNum)
  /-- FILL16, format Rw, rule R211 -/
  | fill16 (a : RegNum)
  /-- MSTEP, format Rw, rule R177 -/
  | mstep (a : RegNum)
  /-- MUL, format Rw, rule R176 -/
  | mul (a : RegNum)
  /-- SKPRZ, format Rw, rule R256 -/
  | skprz (a : RegNum)
  /-- SKPS, format i4w, rule R257 -/
  | skps (cc : BitVec 4)
  /-- WRCTL, format Rw, rule R295 -/
  | wrctl (a : RegNum)
  /-- RDCTL, format Rw, rule R294 -/
  | rdctl (a : RegNum)
  /-- SKPRNZ, format Rw, rule R259 -/
  | skprnz (a : RegNum)
  /-- JMP, format Rw, rule R273 -/
  | jmp (a : RegNum)
  /-- CALL, format Rw, rule R274 -/
  | call (a : RegNum)
  /-- BR, format i11, rule R271 -/
  | br (imm : BitVec 11)
  /-- BSR, format i11, rule R272 -/
  | bsr (imm : BitVec 11)
  /-- PFXIO, format i11, rule R251 -/
  | pfxio (imm : BitVec 11)
  /-- PFX, format i11, rule R250 -/
  | pfx (imm : BitVec 11)
  /-- STP, format RPi5, rule R225 -/
  | stp (a : RegNum) (p : BitVec 2) (imm : BitVec 5)
  /-- LDP, format RPi5, rule R222 -/
  | ldp (a : RegNum) (p : BitVec 2) (imm : BitVec 5)
  /-- STS, format Ri8, rule R226 -/
  | sts (a : RegNum) (imm : BitVec 8)
  /-- LDS, format Ri8, rule R223 -/
  | lds (a : RegNum) (imm : BitVec 8)
  deriving DecidableEq, Repr

end Sys2Proof
end

