-- ==== Sys2Proof/WellFormed.lean ====
section
/-! DEFINITION. Which terms of `Instr` are instructions: every field already has its width (R122), so the one check
left is that SKPS names a condition. -/

namespace Sys2Proof

/-- A condition code of SKPS is one of the fourteen of rule R257: 0xE and 0xF are "not defined". -/
def conditionDefined (cc : BitVec 4) : Bool := decide (cc.toNat ≤ 0xD)

/-- Every encoding of the table but SKPS with code 0xE or 0xF is an instruction (R131). -/
def Instr.wellFormed : Instr → Bool
  | .add _ _ => true
  | .addi _ _ => true
  | .sub _ _ => true
  | .subi _ _ => true
  | .cmp _ _ => true
  | .cmpi _ _ => true
  | .lsl _ _ => true
  | .lsli _ _ => true
  | .lsr _ _ => true
  | .lsri _ _ => true
  | .asr _ _ => true
  | .asri _ _ => true
  | .mov _ _ => true
  | .movi _ _ => true
  | .and _ _ => true
  | .andn _ _ => true
  | .or _ _ => true
  | .xor _ _ => true
  | .bgen _ _ => true
  | .ext8d _ _ => true
  | .skp0 _ _ => true
  | .skp1 _ _ => true
  | .ld _ _ => true
  | .st _ _ => true
  | .sts8s _ => true
  | .sts16s _ => true
  | .ext16d _ _ => true
  | .movhi _ _ => true
  | .usr0 _ _ => true
  | .ext8s _ _ => true
  | .ext16s _ _ => true
  | .st8s _ _ => true
  | .st16s _ _ => true
  | .save _ => true
  | .trap _ => true
  | .not _ => true
  | .neg _ => true
  | .abs _ => true
  | .sext8 _ => true
  | .sext16 _ => true
  | .rlc _ => true
  | .rrc _ => true
  | .swap _ => true
  | .usr1 _ => true
  | .usr2 _ => true
  | .usr3 _ => true
  | .usr4 _ => true
  | .restore => true
  | .tret _ => true
  | .st8d _ => true
  | .st16d _ => true
  | .fill8 _ => true
  | .fill16 _ => true
  | .mstep _ => true
  | .mul _ => true
  | .skprz _ => true
  | .skps cc => conditionDefined cc
  | .wrctl _ => true
  | .rdctl _ => true
  | .skprnz _ => true
  | .jmp _ => true
  | .call _ => true
  | .br _ => true
  | .bsr _ => true
  | .pfxio _ => true
  | .pfx _ => true
  | .stp _ _ _ => true
  | .ldp _ _ _ => true
  | .sts _ _ => true
  | .lds _ _ => true

end Sys2Proof
end

