-- ==== Sys2Proof/Decode.lean ====
section
/-! DEFINITION. The decoder and the encoder (30_encoding.md rules R120 to R131). A word is decoded by its most
significant bits in the order of rule R125, then by the secondary opcodes of rules R127, R128, R129; each word that
is no instruction (R131) is rejected under the name of the reason. -/

namespace Sys2Proof

/-- Why a decoder input is not an instruction. -/
inductive DecodeError where
  /-- An opcode that Table 15 marks "Unused" or does not list (R131, D3). -/
  | unusedOpcode
  /-- A bit that the instruction's page draws as 0 is 1 (R131, D4). -/
  | fixedBitSet
  /-- SKPS with a condition code the table does not define (R131, D21). -/
  | undefinedCondition
  /-- Fewer than two bytes: an instruction is exactly 16 bits (R120). -/
  | truncated
  deriving DecidableEq, Repr

/-! ## The fields of an instruction word (R122) -/

/-- A, bits 4..0. -/
def fieldA (w : Half) : RegNum := w.extractLsb' 0 5
/-- B, bits 9..5. -/
def fieldB (w : Half) : RegNum := w.extractLsb' 5 5
/-- P, bits 11..10. -/
def fieldP (w : Half) : BitVec 2 := w.extractLsb' 10 2
/-- IMM5, bits 9..5. -/
def fieldImm5 (w : Half) : BitVec 5 := w.extractLsb' 5 5
/-- IMM8, bits 12..5. -/
def fieldImm8 (w : Half) : BitVec 8 := w.extractLsb' 5 8
/-- IMM8v, bits 7..0. -/
def fieldImm8v (w : Half) : BitVec 8 := w.extractLsb' 0 8
/-- IMM6v, bits 5..0. -/
def fieldImm6v (w : Half) : BitVec 6 := w.extractLsb' 0 6
/-- IMM9, bits 9..1. -/
def fieldImm9 (w : Half) : BitVec 9 := w.extractLsb' 1 9
/-- IMM10, bits 9..0. -/
def fieldImm10 (w : Half) : BitVec 10 := w.extractLsb' 0 10
/-- IMM11, bits 10..0. -/
def fieldImm11 (w : Half) : BitVec 11 := w.extractLsb' 0 11
/-- IMM1u, bit 6. -/
def fieldImm1u (w : Half) : BitVec 1 := w.extractLsb' 6 1
/-- IMM2u, bits 6..5. -/
def fieldImm2u (w : Half) : BitVec 2 := w.extractLsb' 5 2
/-- IMM4w, bits 3..0. -/
def fieldImm4w (w : Half) : BitVec 4 := w.extractLsb' 0 4

/-! ## The decoder -/

/-- op6 = 011101, by op3u = bits 9..7 (R127). -/
def decodeOp3u (w : Half) : Except DecodeError Instr :=
  match w.extractLsb' 7 3 with
  | 0b000#3 => .ok (.ext8s (fieldA w) (fieldImm2u w))
  | 0b001#3 => if w.extractLsb' 5 1 = 0#1 then .ok (.ext16s (fieldA w) (fieldImm1u w)) else .error .fixedBitSet
  | 0b100#3 => .ok (.st8s (fieldA w) (fieldImm2u w))
  | 0b101#3 => if w.extractLsb' 5 1 = 0#1 then .ok (.st16s (fieldA w) (fieldImm1u w)) else .error .fixedBitSet
  | _ => .error .unusedOpcode

/-- op6 = 011110, by op2v = bits 9..8 (R128). -/
def decodeOp2v (w : Half) : Except DecodeError Instr :=
  match w.extractLsb' 8 2 with
  | 0b00#2 => .ok (.save (fieldImm8v w))
  | 0b01#2 => if w.extractLsb' 6 2 = 0#2 then .ok (.trap (fieldImm6v w)) else .error .fixedBitSet
  | _ => .error .unusedOpcode

/-- op6 = 011111, by op5w = bits 9..5 (R129). -/
def decodeOp5w (w : Half) : Except DecodeError Instr :=
  match w.extractLsb' 5 5 with
  | 0b00000#5 => .ok (.not (fieldA w))
  | 0b00001#5 => .ok (.neg (fieldA w))
  | 0b00010#5 => .ok (.abs (fieldA w))
  | 0b00011#5 => .ok (.sext8 (fieldA w))
  | 0b00100#5 => .ok (.sext16 (fieldA w))
  | 0b00101#5 => .ok (.rlc (fieldA w))
  | 0b00110#5 => .ok (.rrc (fieldA w))
  | 0b01000#5 => .ok (.swap (fieldA w))
  | 0b01001#5 => .ok (.usr1 (fieldA w))
  | 0b01010#5 => .ok (.usr2 (fieldA w))
  | 0b01011#5 => .ok (.usr3 (fieldA w))
  | 0b01100#5 => .ok (.usr4 (fieldA w))
  | 0b01101#5 => if w.extractLsb' 0 5 = 0#5 then .ok .restore else .error .fixedBitSet
  | 0b01110#5 => .ok (.tret (fieldA w))
  | 0b10000#5 => .ok (.st8d (fieldA w))
  | 0b10001#5 => .ok (.st16d (fieldA w))
  | 0b10010#5 => .ok (.fill8 (fieldA w))
  | 0b10011#5 => .ok (.fill16 (fieldA w))
  | 0b10100#5 => .ok (.mstep (fieldA w))
  | 0b10101#5 => .ok (.mul (fieldA w))
  | 0b10110#5 => .ok (.skprz (fieldA w))
  | 0b10111#5 =>
    if w.extractLsb' 4 1 = 0#1 then
      if conditionDefined (fieldImm4w w) then .ok (.skps (fieldImm4w w)) else .error .undefinedCondition
    else .error .fixedBitSet
  | 0b11000#5 => .ok (.wrctl (fieldA w))
  | 0b11001#5 => .ok (.rdctl (fieldA w))
  | 0b11010#5 => .ok (.skprnz (fieldA w))
  | 0b11110#5 => .ok (.jmp (fieldA w))
  | 0b11111#5 => .ok (.call (fieldA w))
  | _ => .error .unusedOpcode

/-- Bit 15 = 0, by op6 = bits 15..10 (R126). -/
def decodeOp6 (w : Half) : Except DecodeError Instr :=
  match w.extractLsb' 10 6 with
  | 0b000000#6 => .ok (.add (fieldA w) (fieldB w))
  | 0b000001#6 => .ok (.addi (fieldA w) (fieldImm5 w))
  | 0b000010#6 => .ok (.sub (fieldA w) (fieldB w))
  | 0b000011#6 => .ok (.subi (fieldA w) (fieldImm5 w))
  | 0b000100#6 => .ok (.cmp (fieldA w) (fieldB w))
  | 0b000101#6 => .ok (.cmpi (fieldA w) (fieldImm5 w))
  | 0b000110#6 => .ok (.lsl (fieldA w) (fieldB w))
  | 0b000111#6 => .ok (.lsli (fieldA w) (fieldImm5 w))
  | 0b001000#6 => .ok (.lsr (fieldA w) (fieldB w))
  | 0b001001#6 => .ok (.lsri (fieldA w) (fieldImm5 w))
  | 0b001010#6 => .ok (.asr (fieldA w) (fieldB w))
  | 0b001011#6 => .ok (.asri (fieldA w) (fieldImm5 w))
  | 0b001100#6 => .ok (.mov (fieldA w) (fieldB w))
  | 0b001101#6 => .ok (.movi (fieldA w) (fieldImm5 w))
  | 0b001110#6 => .ok (.and (fieldA w) (fieldB w))
  | 0b001111#6 => .ok (.andn (fieldA w) (fieldB w))
  | 0b010000#6 => .ok (.or (fieldA w) (fieldB w))
  | 0b010001#6 => .ok (.xor (fieldA w) (fieldB w))
  | 0b010010#6 => .ok (.bgen (fieldA w) (fieldImm5 w))
  | 0b010011#6 => .ok (.ext8d (fieldA w) (fieldB w))
  | 0b010100#6 => .ok (.skp0 (fieldA w) (fieldImm5 w))
  | 0b010101#6 => .ok (.skp1 (fieldA w) (fieldImm5 w))
  | 0b010110#6 => .ok (.ld (fieldA w) (fieldB w))
  | 0b010111#6 => .ok (.st (fieldA w) (fieldB w))
  | 0b011000#6 => .ok (.sts8s (fieldImm10 w))
  | 0b011001#6 => if w.extractLsb' 0 1 = 0#1 then .ok (.sts16s (fieldImm9 w)) else .error .fixedBitSet
  | 0b011010#6 => .ok (.ext16d (fieldA w) (fieldB w))
  | 0b011011#6 => .ok (.movhi (fieldA w) (fieldImm5 w))
  | 0b011100#6 => .ok (.usr0 (fieldA w) (fieldB w))
  | 0b011101#6 => decodeOp3u w
  | 0b011110#6 => decodeOp2v w
  | 0b011111#6 => decodeOp5w w
  | _ => .error .unusedOpcode

/-- The instruction a 16-bit word is, in the order of rule R125. -/
def decode (w : Half) : Except DecodeError Instr :=
  if w.extractLsb' 13 3 = 0b111#3 then .ok (.lds (fieldA w) (fieldImm8 w))
  else if w.extractLsb' 13 3 = 0b110#3 then .ok (.sts (fieldA w) (fieldImm8 w))
  else if w.extractLsb' 12 4 = 0b1011#4 then .ok (.ldp (fieldA w) (fieldP w) (fieldImm5 w))
  else if w.extractLsb' 12 4 = 0b1010#4 then .ok (.stp (fieldA w) (fieldP w) (fieldImm5 w))
  else if w.extractLsb' 11 5 = 0b10011#5 then .ok (.pfx (fieldImm11 w))
  else if w.extractLsb' 11 5 = 0b10010#5 then .ok (.pfxio (fieldImm11 w))
  else if w.extractLsb' 11 5 = 0b10001#5 then .ok (.bsr (fieldImm11 w))
  else if w.extractLsb' 11 5 = 0b10000#5 then .ok (.br (fieldImm11 w))
  else decodeOp6 w

/-- The instruction at the front of a byte string, lower address first, and the bytes after it: the byte at the lower
address is bits 7..0 of the word (R84).
DESIGN CHOICE (log entry 5): the manual says "little-endian" of the processor and shows no instruction's bytes. -/
def decodeBytes : List Byte → Except DecodeError (Instr × List Byte)
  | b0 :: b1 :: rest =>
    match decode (b1 ++ b0) with
    | .ok i => .ok (i, rest)
    | .error e => .error e
  | _ => .error .truncated

/-- What the decoder reads from an instruction whose bits are `w`, the low `nbits` of them given and the rest 0, laid
out in memory as rule R84 stores it. -/
def decodeTableWord (nbits w : Nat) : Option Instr :=
  let v := w % 2 ^ nbits
  match decodeBytes [BitVec.ofNat 8 v, BitVec.ofNat 8 (v / 256)] with
  | .ok (i, _) => some i
  | .error _ => none

/-! ## The encoder, from the same bit rows -/

/-- The word of an instruction (R121, R125 to R130), written as its page's bit row. -/
def encode : Instr → Half
  | .add a b => 0b000000#6 ++ b ++ a
  | .addi a imm => 0b000001#6 ++ imm ++ a
  | .sub a b => 0b000010#6 ++ b ++ a
  | .subi a imm => 0b000011#6 ++ imm ++ a
  | .cmp a b => 0b000100#6 ++ b ++ a
  | .cmpi a imm => 0b000101#6 ++ imm ++ a
  | .lsl a b => 0b000110#6 ++ b ++ a
  | .lsli a imm => 0b000111#6 ++ imm ++ a
  | .lsr a b => 0b001000#6 ++ b ++ a
  | .lsri a imm => 0b001001#6 ++ imm ++ a
  | .asr a b => 0b001010#6 ++ b ++ a
  | .asri a imm => 0b001011#6 ++ imm ++ a
  | .mov a b => 0b001100#6 ++ b ++ a
  | .movi a imm => 0b001101#6 ++ imm ++ a
  | .and a b => 0b001110#6 ++ b ++ a
  | .andn a b => 0b001111#6 ++ b ++ a
  | .or a b => 0b010000#6 ++ b ++ a
  | .xor a b => 0b010001#6 ++ b ++ a
  | .bgen a imm => 0b010010#6 ++ imm ++ a
  | .ext8d a b => 0b010011#6 ++ b ++ a
  | .skp0 a imm => 0b010100#6 ++ imm ++ a
  | .skp1 a imm => 0b010101#6 ++ imm ++ a
  | .ld a b => 0b010110#6 ++ b ++ a
  | .st a b => 0b010111#6 ++ b ++ a
  | .sts8s imm => 0b011000#6 ++ imm
  | .sts16s imm => 0b011001#6 ++ imm ++ 0b0#1
  | .ext16d a b => 0b011010#6 ++ b ++ a
  | .movhi a imm => 0b011011#6 ++ imm ++ a
  | .usr0 a b => 0b011100#6 ++ b ++ a
  | .ext8s a imm => 0b011101000#9 ++ imm ++ a
  | .ext16s a imm => 0b011101001#9 ++ imm ++ 0b0#1 ++ a
  | .st8s a imm => 0b011101100#9 ++ imm ++ a
  | .st16s a imm => 0b011101101#9 ++ imm ++ 0b0#1 ++ a
  | .save imm => 0b01111000#8 ++ imm
  | .trap imm => 0b0111100100#10 ++ imm
  | .not a => 0b01111100000#11 ++ a
  | .neg a => 0b01111100001#11 ++ a
  | .abs a => 0b01111100010#11 ++ a
  | .sext8 a => 0b01111100011#11 ++ a
  | .sext16 a => 0b01111100100#11 ++ a
  | .rlc a => 0b01111100101#11 ++ a
  | .rrc a => 0b01111100110#11 ++ a
  | .swap a => 0b01111101000#11 ++ a
  | .usr1 a => 0b01111101001#11 ++ a
  | .usr2 a => 0b01111101010#11 ++ a
  | .usr3 a => 0b01111101011#11 ++ a
  | .usr4 a => 0b01111101100#11 ++ a
  | .restore => 0b0111110110100000#16
  | .tret a => 0b01111101110#11 ++ a
  | .st8d a => 0b01111110000#11 ++ a
  | .st16d a => 0b01111110001#11 ++ a
  | .fill8 a => 0b01111110010#11 ++ a
  | .fill16 a => 0b01111110011#11 ++ a
  | .mstep a => 0b01111110100#11 ++ a
  | .mul a => 0b01111110101#11 ++ a
  | .skprz a => 0b01111110110#11 ++ a
  | .skps cc => 0b011111101110#12 ++ cc
  | .wrctl a => 0b01111111000#11 ++ a
  | .rdctl a => 0b01111111001#11 ++ a
  | .skprnz a => 0b01111111010#11 ++ a
  | .jmp a => 0b01111111110#11 ++ a
  | .call a => 0b01111111111#11 ++ a
  | .br imm => 0b10000#5 ++ imm
  | .bsr imm => 0b10001#5 ++ imm
  | .pfxio imm => 0b10010#5 ++ imm
  | .pfx imm => 0b10011#5 ++ imm
  | .stp a p imm => 0b1010#4 ++ p ++ imm ++ a
  | .ldp a p imm => 0b1011#4 ++ p ++ imm ++ a
  | .sts a imm => 0b110#3 ++ imm ++ a
  | .lds a imm => 0b111#3 ++ imm ++ a

end Sys2Proof
end

