-- ==== Sys2Proof/Config.lean ====
section
/-! DEFINITION. What a Nios CPU leaves to the configuration of each CPU (00_scope.md rule R9), as plain data, and
the values the manual leaves open, as constants without a body. -/

namespace Sys2Proof

/-- `NREGS`: the register file holds "either 128, 256, or 512 registers" (R9, R30). -/
inductive RegFileSize where
  | regs128
  | regs256
  | regs512
  deriving DecidableEq, Repr

/-- The number of general-purpose registers in the file. -/
def RegFileSize.nregs : RegFileSize → Nat
  | .regs128 => 128
  | .regs256 => 256
  | .regs512 => 512

/-- What stands behind a range of addresses (R91, R95): memory that keeps what is stored, memory that ignores stores
(92_eei_decisions.md D28), or a peripheral, whose values the manual does not give. -/
inductive RegionKind where
  | ram
  | rom
  | device
  deriving DecidableEq, Repr

/-- One range of the platform's memory map: the addresses `base`, …, `base + size - 1`. -/
structure Region where
  base : Nat
  size : Nat
  kind : RegionKind
  deriving DecidableEq, Repr

/-- The parameters of one CPU and its platform (R9). `USR_FN` is the constant `Config.usrFn`. -/
structure Config where
  /-- `NREGS` -/
  regFile : RegFileSize
  /-- `HAS_OCI` -/
  hasOci : Bool
  /-- `WVALID_WRITABLE` -/
  wvalidWritable : Bool
  /-- `VECBASE` -/
  vecBase : Word
  /-- `HAS_DCACHE` -/
  hasDCache : Bool
  /-- `DCACHE_SIZE`, in bytes -/
  dcacheSize : Nat
  /-- `HAS_ICACHE` -/
  hasICache : Bool
  /-- `ICACHE_SIZE`, in bytes -/
  icacheSize : Nat
  /-- `CPU_ID_VALUE` -/
  cpuId : BitVec 16
  /-- `RESET_ADDR` -/
  resetAddr : Word
  /-- the platform's memory map (R95, D28) -/
  memMap : List Region
  deriving DecidableEq, Repr

/-- `HI_LIMIT_RESET = NREGS / 16 - 2` (R9): 6, 14 or 30. -/
def Config.hiLimitReset (c : Config) : BitVec 5 := BitVec.ofNat 5 (c.regFile.nregs / 16 - 2)

/-- `LO_LIMIT_RESET`: 1, or 2 with the OCI debug module (R9, R55). -/
def Config.loLimitReset (c : Config) : BitVec 5 := if c.hasOci then 2#5 else 1#5

/-- Some region of the map holds the whole of the `n` bytes at `a`. -/
def Config.mapped (c : Config) (a n : Nat) : Bool :=
  c.memMap.any fun r => decide (r.base ≤ a ∧ a + n ≤ r.base + r.size)

/-- The constraints the spec puts on the parameters: `VECBASE` word-aligned with its 64 entries mapped (D12),
`RESET_ADDR` even (D1), a cache's size a positive multiple of its line size (D8), bit 15 of `CPU_ID` 0 (R58), and
every region inside the 32-bit address space (R64). -/
def Config.valid (c : Config) : Bool :=
  c.vecBase.extractLsb' 0 2 == 0#2 &&
  (List.range 64).all (fun n => c.mapped (c.vecBase.toNat + 4 * n) 4) &&
  c.resetAddr.getLsbD 0 == false &&
  (!c.hasDCache || (decide (0 < c.dcacheSize) && decide (c.dcacheSize % 4 = 0))) &&
  (!c.hasICache || (decide (0 < c.icacheSize) && decide (c.icacheSize % 2 = 0))) &&
  c.cpuId.getLsbD 15 == false &&
  c.memMap.all fun r => decide (r.base + r.size ≤ 2 ^ 32)

/-- The configuration that `State.reset` names: that of the spec's own test vectors (95_test_vectors.md section 1),
over an address space that is RAM throughout.
DESIGN CHOICE (log entry 1): the manual leaves every one of these to the system builder. -/
def Config.standard : Config where
  regFile := .regs256
  hasOci := false
  wvalidWritable := true
  vecBase := 0x100#32
  hasDCache := false
  dcacheSize := 0
  hasICache := false
  icacheSize := 0
  cpuId := 0x3000#16
  resetAddr := 0x1000#32
  memMap := [{ base := 0, size := 0x100000000, kind := .ram }]

/-- The value the CPU reads where the manual fixes none (log entries 6 and 7): free, a fresh one for each counter value. -/
opaque Config.freeWord : Nat → Word

/-- `USR_FN[n]` of R310: the operation the system designer puts behind `USR0`..`USR4`, on (RA, RB or %r0, K). -/
opaque Config.usrFn : Fin 5 → Word → Word → BitVec 11 → Word

end Sys2Proof
end

