-- ==== Sys2Proof/Machine/State.lean ====
section
/-! DEFINITION. The state of the Nios CPU and its environment (10_state.md), as plain data, the reasons a step stops,
and the state after reset (70_reset_and_hazards.md rule R370). -/

namespace Sys2Proof.Machine

/-- Why the machine stops: the tags of 93_implementation_defined.md section 3. None is an exception of the CPU (R19).
Each is raised where a numbered rule says UNSPECIFIED, and each is safe: the model stops where the manual gives the
machine no behaviour. -/
inductive Fault where
  /-- `reserved-opcode` (U13, U14, U15): the fetched word is no instruction (R131), or SKPS names no condition (R257).
  Raised by the fetch of a step and by SKPS. Safe. -/
  | reservedOpcode
  /-- `trap-0` (U16): the word 0x7900; "TRAP 0 cannot be issued by user software" (R292). Raised by TRAP. Safe. -/
  | trapZero
  /-- `delay-slot` (U11): one of the thirteen instructions of R276 in a branch delay slot. Raised by those. Safe. -/
  | delaySlot
  /-- `pfx-pfx` (U1): a prefix directly after a prefix (R250). Raised by PFX and PFXIO. Safe. -/
  | pfxPfx
  /-- `pfxio-target` (U2): PFXIO before anything but LD and LDP (R251). Raised by every other instruction. Safe. -/
  | pfxioTarget
  /-- `wrctl-status-no-nop` (U12): the word after a WRCTL to STATUS is not 0x3000 (R381). Raised by the fetch. Safe. -/
  | wrctlStatusNoNop
  /-- `reserved-ctl` (U9, U10): a control register the manual does not define (R294, R296). Raised by RDCTL, WRCTL. Safe. -/
  | reservedCtl
  /-- `dcache-write-enabled` (U3): WRCTL to DCACHE while DC = 1 (R103). Raised by WRCTL. Safe. -/
  | dcacheWriteEnabled
  /-- `icache-write-enabled` (U4): WRCTL to ICACHE while IC = 1 (R108). Raised by WRCTL. Safe. -/
  | icacheWriteEnabled
  /-- `dcache-uninitialised` (U5): a cached load of a line never initialised (R99). Raised by LD, LDP, LDS. Safe. -/
  | dcacheUninitialised
  /-- `icache-uninitialised` (U5): a cached fetch from a line never initialised (R107). Raised by the fetch. Safe. -/
  | icacheUninitialised
  /-- `register-file-range` (U17): a window register beyond the register file (R34). Raised by every register access. Safe. -/
  | registerFileRange
  /-- `unmapped` (U22): an access no region of the memory map holds (R95). Raised by every memory access. Safe. -/
  | unmapped
  deriving DecidableEq, Repr

/-- Why the model gives a step no meaning. -/
inductive Refusal where
  /-- An instruction without a meaning in the model; raised by `exec` alone. No arm of `exec` raises it. Safe. -/
  | notModelled (mnemonic : String)
  /-- `irq` = 1 with `irq_number` = 0, the non-maskable exception of the OCI debug module, which "behaves differently"
  and is not described (R326, R345, U16). Raised by the sampling of the inputs at the start of a step. Safe. -/
  | debugException
  deriving DecidableEq, Repr

/-- STATUS and ISTATUS, field by field (R46, R54): the 18 drawn bits and no others (R63). -/
structure Status where
  /-- bit 17, data cache enable (R47) -/
  dc : Bool
  /-- bit 16, instruction cache enable (R48) -/
  ic : Bool
  /-- bit 15, interrupt enable (R49) -/
  ie : Bool
  /-- bits 14..9, interrupt priority (R50) -/
  ipri : BitVec 6
  /-- bits 8..4, current window pointer (R51) -/
  cwp : BitVec 5
  /-- bit 3, negative (R52) -/
  n : Bool
  /-- bit 2, overflow (R52) -/
  v : Bool
  /-- bit 1, zero (R52) -/
  z : Bool
  /-- bit 0, carry (R52) -/
  c : Bool
  deriving DecidableEq, Repr

/-- WVALID (R55): the drawn bits and no others (R63). -/
structure Wvalid where
  /-- bits 9..5: the highest valid CWP -/
  hiLimit : BitVec 5
  /-- bits 4..0: the lowest valid CWP -/
  loLimit : BitVec 5
  deriving DecidableEq, Repr

/-- A line of the data cache: one word (R98). -/
inductive DLine where
  | unknown
  | invalid
  | valid (tag : Nat) (data : Word)
  deriving DecidableEq, Repr

/-- A line of the instruction cache: one instruction (R105). -/
inductive ILine where
  | unknown
  | invalid
  | valid (tag : Nat) (data : Half)
  deriving DecidableEq, Repr

/-- One sample of the interrupt inputs (R325). -/
structure IrqSample where
  irq : Bool
  number : BitVec 6
  deriving DecidableEq, Repr

/-- Memory: byte addresses with their bytes, in the canonical form of `Memory.wf`; an unlisted address reads as 0. -/
abbrev Memory := List Host.Cell

/-- The CPU, its parameters, its memory and its inputs (R18). -/
structure State where
  /-- the parameters of R9; no step changes them -/
  cfg : Config
  /-- `RF`: the `NREGS` general-purpose registers (R30, R33) -/
  regs : List Word
  /-- the program counter, a byte address (R41) -/
  pc : Word
  /-- `K`, the prefix register (R38) -/
  k : BitVec 11
  /-- the previous instruction was PFX or PFXIO (R39) -/
  pfx : Bool
  /-- the previous instruction was PFXIO (R40) -/
  iobyp : Bool
  /-- the target of a branch whose delay-slot instruction has not executed yet (R42) -/
  delay : Option Word
  /-- the previous instruction was a WRCTL to STATUS (R66 (g), R381) -/
  nopdue : Bool
  /-- STATUS, %ctl0 (R46) -/
  status : Status
  /-- ISTATUS, %ctl1 (R54) -/
  istatus : Status
  /-- WVALID, %ctl2 (R55) -/
  wvalid : Wvalid
  /-- the data cache: line indices with their lines; an unlisted line is `unknown` (R98) -/
  dcache : List (Nat × DLine)
  /-- the instruction cache, likewise (R105) -/
  icache : List (Nat × ILine)
  /-- memory (R64, R82) -/
  mem : Memory
  /-- the `irq` input as last sampled (R325) -/
  irq : Bool
  /-- the `irq_number` inputs as last sampled (R325) -/
  irqNumber : BitVec 6
  /-- the environment's samples still to come, one a step (R398 (d)); when they are used up the inputs hold their level -/
  irqTrace : List IrqSample
  /-- the MODEL's own: how many free values (`Config.freeWord`) have been drawn -/
  freeCtr : Nat
  deriving DecidableEq, Repr

/-- STATUS after reset (R370): DC = IC = IE = 0, IPRI = 63, CWP = HI_LIMIT.
DESIGN CHOICE (log entry 2): N, V, Z, C are not stated; here 0. -/
def Status.reset (c : Config) : Status where
  dc := false
  ic := false
  ie := false
  ipri := 63#6
  cwp := c.hiLimitReset
  n := false
  v := false
  z := false
  c := false

/-- All 18 bits 0: the reset value of ISTATUS (R54). -/
def Status.zero : Status where
  dc := false
  ic := false
  ie := false
  ipri := 0#6
  cwp := 0#5
  n := false
  v := false
  z := false
  c := false

/-- The machine right after reset, for the parameters `c` (R370).
DESIGN CHOICE (log entry 2): the manual gives no reset value for the general registers, K and the hidden bits; here 0,
false and nothing. DESIGN CHOICE (log entry 3): memory lists nothing. DESIGN CHOICE (log entries 6 and 8): the free
value counter and the inputs start at 0. -/
def State.resetOf (c : Config) : State where
  cfg := c
  regs := List.replicate c.regFile.nregs 0#32
  pc := c.resetAddr
  k := 0#11
  pfx := false
  iobyp := false
  delay := none
  nopdue := false
  status := Status.reset c
  istatus := Status.zero
  wvalid := { hiLimit := c.hiLimitReset, loLimit := c.loLimitReset }
  dcache := []
  icache := []
  mem := []
  irq := false
  irqNumber := 0#6
  irqTrace := []
  freeCtr := 0

/-- The machine right after reset, in the configuration `Config.standard`. -/
def State.reset : State := State.resetOf Config.standard

end Sys2Proof.Machine
end

