-- ==== Sys2Proof/Machine/Flags.lean ====
section
/-! DEFINITION. The condition-code flags (10_state.md rules R52, R53; 40_arithmetic_logic.md rules R160 to R162), the
conditions of SKPS (43_prefix_skip.md rule R257) and the layouts of STATUS and WVALID (R46, R55). -/

namespace Sys2Proof.Machine

/-- The four flags written at once. -/
def Status.withFlags (st : Status) (n v z c : Bool) : Status := { st with n := n, v := v, z := z, c := c }

/-- C alone written (R197, R198). -/
def Status.withCarry (st : Status) (c : Bool) : Status := { st with c := c }

/-- Carry-out of `a + b`: the unlimited sum reaches 2^32 (R160). -/
def addCarry (a b : Word) : Bool := decide (2 ^ 32 ≤ a.toNat + b.toNat)

/-- Signed overflow of `a + b`: both operands have one sign and the result the other (R160). -/
def addOverflow (a b : Word) : Bool := a.msb == b.msb && (a + b).msb != a.msb

/-- Borrow-out of `a - b`: `a < b` unsigned (R161). -/
def subBorrow (a b : Word) : Bool := decide (a.toNat < b.toNat)

/-- Signed overflow of `a - b`: the operands differ in sign and the result's sign differs from the minuend's (R161). -/
def subOverflow (a b : Word) : Bool := a.msb != b.msb && (a - b).msb != a.msb

/-- The flags of an addition (R160). -/
def Status.addFlags (st : Status) (a b : Word) : Status :=
  st.withFlags (a + b).msb (addOverflow a b) (a + b == 0#32) (addCarry a b)

/-- The flags of a subtraction (R161). -/
def Status.subFlags (st : Status) (a b : Word) : Status :=
  st.withFlags (a - b).msb (subOverflow a b) (a - b == 0#32) (subBorrow a b)

/-- The flags of a bitwise logic instruction with result `r`: N and Z alone (R162). -/
def Status.logicFlags (st : Status) (r : Word) : Status := { st with n := r.msb, z := r == 0#32 }

/-- The condition numbered `cc` (R257); none for the codes 0xE and 0xF, which the table does not define. -/
def Status.condition (st : Status) (cc : BitVec 4) : Option Bool :=
  match cc with
  | 0x0#4 => some st.c
  | 0x1#4 => some (!st.c)
  | 0x2#4 => some st.z
  | 0x3#4 => some (!st.z)
  | 0x4#4 => some st.n
  | 0x5#4 => some (!st.n)
  | 0x6#4 => some (!(st.n ^^ st.v))
  | 0x7#4 => some (st.n ^^ st.v)
  | 0x8#4 => some (st.z || (st.n ^^ st.v))
  | 0x9#4 => some (!(st.z || (st.n ^^ st.v)))
  | 0xA#4 => some st.v
  | 0xB#4 => some (!st.v)
  | 0xC#4 => some (st.c || st.z)
  | 0xD#4 => some (!(st.c || st.z))
  | _ => none

/-- The 18 bits of STATUS: DC IC IE IPRI CWP N V Z C (R46). -/
def Status.bits (st : Status) : BitVec 18 :=
  BitVec.ofBool st.dc ++ BitVec.ofBool st.ic ++ BitVec.ofBool st.ie ++ st.ipri ++ st.cwp ++
    BitVec.ofBool st.n ++ BitVec.ofBool st.v ++ BitVec.ofBool st.z ++ BitVec.ofBool st.c

/-- STATUS or ISTATUS as RDCTL reads it: bits 31..18 are 0 (R63, R294).
DESIGN CHOICE (log entry 10): no figure draws those bits. -/
def Status.toWord (st : Status) : Word := st.bits.setWidth 32

/-- The fields of a written value: bits 31..18 ignored (R63, R296). -/
def Status.ofWord (v : Word) : Status where
  dc := v.getLsbD 17
  ic := v.getLsbD 16
  ie := v.getLsbD 15
  ipri := v.extractLsb' 9 6
  cwp := v.extractLsb' 4 5
  n := v.getLsbD 3
  v := v.getLsbD 2
  z := v.getLsbD 1
  c := v.getLsbD 0

/-- DC and IC stay 0 in a CPU without that cache (R47, R48, R296).
DESIGN CHOICE (log entry 9): the manual does not say what the absent bit does. -/
def Status.present (c : Config) (st : Status) : Status :=
  { st with dc := st.dc && c.hasDCache, ic := st.ic && c.hasICache }

/-- WVALID as RDCTL reads it: HI_LIMIT in bits 9..5, LO_LIMIT in bits 4..0, the others 0 (R55, R294). -/
def Wvalid.toWord (w : Wvalid) : Word := (w.hiLimit ++ w.loLimit).setWidth 32

/-- The fields of a value written to WVALID (R296). -/
def Wvalid.ofWord (v : Word) : Wvalid where
  hiLimit := v.extractLsb' 5 5
  loLimit := v.extractLsb' 0 5

end Sys2Proof.Machine
end

