-- ==== Sys2Proof/Machine/Memory.lean ====
section
/-! DEFINITION. Tables with a default, kept as lists in one canonical form (memory and the two caches), and memory as
bytes (20_memory.md rules R80 to R86). -/

namespace Sys2Proof.Machine

/-- The entry of a table at `a`; `d` where none is listed. -/
def sparseGet {α : Type} (d : α) : List (Nat × α) → Nat → α
  | [], _ => d
  | (k, v) :: t, a => if k = a then v else sparseGet d t a

/-- Insert an entry before the first key above `a`. -/
def sparseInsert {α : Type} (a : Nat) (v : α) : List (Nat × α) → List (Nat × α)
  | [] => [(a, v)]
  | (k, w) :: t => if a < k then (a, v) :: (k, w) :: t else (k, w) :: sparseInsert a v t

/-- Set the entry at `a` to `v`; the default is not listed. -/
def sparseSet {α : Type} [DecidableEq α] (d : α) (l : List (Nat × α)) (a : Nat) (v : α) : List (Nat × α) :=
  let t := l.filter fun e => e.1 != a
  if v = d then t else sparseInsert a v t

/-- The canonical form: keys strictly rising, no entry equal to the default. -/
def sparseWf {α : Type} [DecidableEq α] (d : α) (l : List (Nat × α)) : Bool :=
  decide ((l.map Prod.fst).Pairwise (· < ·)) && l.all fun e => decide (e.2 ≠ d)

/-- What a byte of memory that nothing has written reads as.
DESIGN CHOICE (log entry 3): the manual describes no contents of RAM after reset. -/
def unlistedByte : Byte := 0#8

/-- `M[a]` (R82). -/
def Memory.readByte (m : Memory) (a : Nat) : Byte := sparseGet unlistedByte m a

/-- `M[a] <- b` (R86). -/
def Memory.writeByte (m : Memory) (a : Nat) (b : Byte) : Memory := sparseSet unlistedByte m a b

/-- The half-word at `a`, little-endian: `M[a+1] : M[a]` (R84). -/
def Memory.readHalf (m : Memory) (a : Nat) : Half := m.readByte (a + 1) ++ m.readByte a

/-- The word at `a`, little-endian: `M[a+3] : M[a+2] : M[a+1] : M[a]` (R82). -/
def Memory.readWord (m : Memory) (a : Nat) : Word :=
  m.readByte (a + 3) ++ m.readByte (a + 2) ++ m.readByte (a + 1) ++ m.readByte a

/-- Write bytes at `a`, `a + 1`, … (R86). -/
def Memory.writeBytes (m : Memory) (a : Nat) : List Byte → Memory
  | [] => m
  | b :: t => Memory.writeBytes (m.writeByte a b) (a + 1) t

/-- Memory is in its canonical form and lists no address outside the 32-bit space (R64). -/
def Memory.wf (m : Memory) : Bool := sparseWf unlistedByte m && m.all fun e => decide (e.1 < 2 ^ 32)

end Sys2Proof.Machine
end

