-- ==== Sys2Proof/Machine/Operands.lean ====
section
/-! DEFINITION. Every operand form of the instruction set, as functions of bits (30_encoding.md rules R123, R140;
42_load_store.md rule R220; 44_control_transfer.md rules R271, R272, R278). -/

namespace Sys2Proof.Machine

/-- `imm16 = K : IMM5` (R13, R123). -/
def imm16 (k : BitVec 11) (imm : BitVec 5) : BitVec 16 := k ++ imm

/-- `zext_16(K : IMM5)`: the constant of ADDI, SUBI, CMPI, MOVI and of prefixed AND, ANDN, OR, XOR (R123). -/
def immOperand (k : BitVec 11) (imm : BitVec 5) : Word := (imm16 k imm).setWidth 32

/-- `sext_11(K) × 4`: the offset of LD, ST, ST8D, ST16D, ST8S, ST16S (R220). -/
def prefixOffset (k : BitVec 11) : Word := k.signExtend 32 * 4#32

/-- `sext_16(K : IMM5) × 4`: the offset of LDP, STP (R220). -/
def pointerOffset (k : BitVec 11) (imm : BitVec 5) : Word := (imm16 k imm).signExtend 32 * 4#32

/-- `IMM8 × 4`: the offset of LDS, STS and the frame of SAVE (R220, R290). -/
def stackOffset (imm : BitVec 8) : Word := imm.setWidth 32 * 4#32

/-- `align32(a) = a & 0xFFFFFFFC` (R13, R85). -/
def align32 (a : Word) : Word := a &&& 0xFFFFFFFC#32

/-- `byte(v, n) = v[8n+7 : 8n]` (R13). -/
def byteOf (v : Word) (n : BitVec 2) : Byte := v.extractLsb' (8 * n.toNat) 8

/-- `half(v, n) = v[16n+15 : 16n]` (R13). -/
def halfOf (v : Word) (n : BitVec 1) : Half := v.extractLsb' (16 * n.toNat) 16

/-- The byte lane that the low two bits of an address or of a selector register name (R206, R227). -/
def byteLane (a : Word) : BitVec 2 := a.extractLsb' 0 2

/-- The half-word lane that bit 1 names (R208, R229). -/
def halfLane (a : Word) : BitVec 1 := a.extractLsb' 1 1

/-- The byte lane of STS8S, `IMM10[1:0]` (R231). -/
def stackByteLane (imm : BitVec 10) : BitVec 2 := imm.extractLsb' 0 2

/-- The half-word lane of STS16S, `IMM9[0]` (R232). -/
def stackHalfLane (imm : BitVec 9) : BitVec 1 := imm.extractLsb' 0 1

/-- The word STS8S stores into, `align32(%sp + IMM10)` (R231). -/
def stackByteWord (sp : Word) (imm : BitVec 10) : Word := align32 (sp + imm.setWidth 32)

/-- The word STS16S stores into, `align32(%sp + IMM9 × 2)` (R232). -/
def stackHalfWord (sp : Word) (imm : BitVec 9) : Word := align32 (sp + imm.setWidth 32 * 2#32)

/-- The address of byte lane `n` of the word at `w`: `w + n` (R86). -/
def byteAddress (w : Word) (n : BitVec 2) : Word := w + n.setWidth 32

/-- The address of half-word lane `n` of the word at `w`: `w + 2n` (R86). -/
def halfAddress (w : Word) (n : BitVec 1) : Word := w + n.setWidth 32 * 2#32

/-- The amount of a register shift, `x[B][4:0]` (R190). -/
def shiftAmount (v : Word) : BitVec 5 := v.extractLsb' 0 5

/-- `pc + ((sext_11(IMM11) + 1) << 1)`, the target of BR and BSR (R271, R272). -/
def branchTarget (pc : Word) (imm : BitVec 11) : Word := pc + ((imm.signExtend 32 + 1#32) <<< 1)

/-- `v << 1`: the byte address of the half-word address that JMP, CALL, TRET and the vector table hold (R278). -/
def codeAddress (v : Word) : Word := v <<< 1

/-- `ret >> 1`: the half-word address that BSR, CALL, TRAP and exception entry save in %o7 (R278). -/
def returnAddress (ret : Word) : Word := ret >>> 1

/-- The four bytes of a word, the one at the lowest address first (R80, R86). -/
def wordBytes (v : Word) : List Byte := [v.extractLsb' 0 8, v.extractLsb' 8 8, v.extractLsb' 16 8, v.extractLsb' 24 8]

/-- The two bytes of a half-word, the one at the lowest address first (R80, R86). -/
def halfBytes (v : Half) : List Byte := [v.extractLsb' 0 8, v.extractLsb' 8 8]

/-- The byte in all four positions (R210). -/
def fillByte (b : Byte) : Word := b ++ b ++ b ++ b

/-- The half-word in both positions (R211). -/
def fillHalf (h : Half) : Word := h ++ h

/-- `((K : IMM5) << 16) | v[15:0]` (R201). -/
def withHighHalf (k : BitVec 11) (imm : BitVec 5) (v : Word) : Word := imm16 k imm ++ v.extractLsb' 0 16

/-- `half(v, 0) : half(v, 1)` (R203). -/
def swapHalves (v : Word) : Word := v.extractLsb' 0 16 ++ v.extractLsb' 16 16

/-- `|v|`, "-X if (X < 0), X otherwise", modulo 2^32 (R175). -/
def absValue (v : Word) : Word := if v.msb then 0#32 - v else v

/-- The product of the low half-words as unsigned numbers (R176, 90_conflicts.md C5). -/
def mulLow (r a : Word) : Word := (r &&& 0xFFFF#32) * (a &&& 0xFFFF#32)

/-- One step of an unsigned multiply: shift %r0 left and add RA where the bit shifted out is 1 (R177). -/
def multiplyStep (r a : Word) : Word := if r.msb then (r <<< 1) + a else r <<< 1

/-- `((a << 1) mod 2^32) | c`: the result of RLC (R197). -/
def rotateLeftCarry (c : Bool) (a : Word) : Word := a.extractLsb' 0 31 ++ BitVec.ofBool c

/-- `(c << 31) | (a >> 1)`: the result of RRC (R198). -/
def rotateRightCarry (c : Bool) (a : Word) : Word := BitVec.ofBool c ++ a.extractLsb' 1 31

/-- The base register of LDP and STP: `%L0`..`%L3`, register 16 + P (R222). -/
def pointerReg (p : BitVec 2) : RegNum := 16#5 + p.setWidth 5

end Sys2Proof.Machine
end

