-- ==== Sys2Proof/Machine/Ops.lean ====
section
/-! DEFINITION. The operations the meanings share: registers through the window (10_state.md rules R32 to R34), the
bus, the two caches (20_memory.md), the end of an instruction (R43), the entry of an exception and the return from
one (60_exceptions.md rules R335, R340), the control registers (45_window_trap_control.md rules R294, R296). -/

namespace Sys2Proof.Machine

/-- What a meaning answers. -/
abbrev Result := Host.Outcome State Fault Refusal

/-- A computation that ends in a state or in a fault, as the answer of a meaning. -/
def finish : Except Fault State → Result
  | .ok s => .next s
  | .error f => .fault f

/-! ## Updates of the state -/

/-- Replace the register file. -/
def State.setRegs (s : State) (r : List Word) : State := { s with regs := r }
/-- Replace STATUS. -/
def State.setStatus (s : State) (st : Status) : State := { s with status := st }
/-- Replace ISTATUS. -/
def State.setIstatus (s : State) (st : Status) : State := { s with istatus := st }
/-- Replace WVALID. -/
def State.setWvalid (s : State) (w : Wvalid) : State := { s with wvalid := w }
/-- Replace the data cache. -/
def State.setDcache (s : State) (d : List (Nat × DLine)) : State := { s with dcache := d }
/-- Replace the instruction cache. -/
def State.setIcache (s : State) (i : List (Nat × ILine)) : State := { s with icache := i }
/-- Replace memory. -/
def State.setMem (s : State) (m : Memory) : State := { s with mem := m }
/-- Set or clear `nopdue`. -/
def State.setNopdue (s : State) (b : Bool) : State := { s with nopdue := b }
/-- Set the state a prefix leaves: `K`, `pfx`, `iobyp`. -/
def State.setPfx (s : State) (k : BitVec 11) (pfx iobyp : Bool) : State := { s with k := k, pfx := pfx, iobyp := iobyp }
/-- Set where execution goes on: `pc` and the pending branch target. -/
def State.setPc (s : State) (pc : Word) (delay : Option Word) : State := { s with pc := pc, delay := delay }
/-- Count a free value as drawn. -/
def State.drawFree (s : State) : State := { s with freeCtr := s.freeCtr + 1 }
/-- Set the inputs and the samples to come. -/
def State.setInputs (s : State) (irq : Bool) (n : BitVec 6) (t : List IrqSample) : State :=
  { s with irq := irq, irqNumber := n, irqTrace := t }

/-! ## General registers -/

/-- `phys(r, CWP)`: the physical register that the visible register `r` is (R33).
DEDUCED (log entry 4): the manual's table of this map is lost. -/
def phys (cwp : BitVec 5) (r : RegNum) : Nat := if r.toNat < 8 then r.toNat else 16 * cwp.toNat + r.toNat

/-- `x[r]` (R33); a register beyond the file faults (R34 (c)). -/
def State.readReg (s : State) (r : RegNum) : Except Fault Word :=
  match s.regs[phys s.status.cwp r]? with
  | some v => .ok v
  | none => .error .registerFileRange

/-- `x[r] <- v` (R33); a register beyond the file faults (R34 (c)). -/
def State.writeReg (s : State) (r : RegNum) (v : Word) : Except Fault State :=
  if phys s.status.cwp r < s.regs.length then .ok (s.setRegs (s.regs.set (phys s.status.cwp r) v))
  else .error .registerFileRange

/-! ## Register operations -/

/-- `x[A] <- f(x[A])`: the register is read before it is written (R12). -/
def State.update (s : State) (a : RegNum) (f : Word → Word) : Except Fault State := do
  let x ← s.readReg a
  s.writeReg a (f x)

/-- `x[A] <- f(x[A], x[B])`: both registers are read before `A` is written. -/
def State.combine (s : State) (a b : RegNum) (f : Word → Word → Word) : Except Fault State := do
  let x ← s.readReg a
  let y ← s.readReg b
  s.writeReg a (f x y)

/-- `x[A] <- x[A] + y` with the flags of R160. -/
def State.addTo (s : State) (a : RegNum) (y : Word) : Except Fault State := do
  let x ← s.readReg a
  let t ← s.writeReg a (x + y)
  .ok (t.setStatus (s.status.addFlags x y))

/-- `x[A] <- x[A] - y` with the flags of R161. -/
def State.subFrom (s : State) (a : RegNum) (y : Word) : Except Fault State := do
  let x ← s.readReg a
  let t ← s.writeReg a (x - y)
  .ok (t.setStatus (s.status.subFlags x y))

/-- `x[A] - y`: the flags of R161 alone. -/
def State.compareWith (s : State) (a : RegNum) (y : Word) : Except Fault State := do
  let x ← s.readReg a
  .ok (s.setStatus (s.status.subFlags x y))

/-- The second operand of AND, ANDN, OR, XOR: the register, or after a prefix the constant `K : IMM5` (R134, R162). -/
def State.logicOperand (s : State) (b : RegNum) : Except Fault Word :=
  if s.pfx then .ok (immOperand s.k b) else s.readReg b

/-- `x[A] <- f(x[A], operand)` with the flags of R162. -/
def State.logicInto (s : State) (a b : RegNum) (f : Word → Word → Word) : Except Fault State := do
  let y ← s.logicOperand b
  let x ← s.readReg a
  let t ← s.writeReg a (f x y)
  .ok (t.setStatus (s.status.logicFlags (f x y)))

/-- `x[A] <- r` and `C <- c` (R197, R198). -/
def State.rotateInto (s : State) (a : RegNum) (r : Word) (c : Bool) : Except Fault State := do
  let t ← s.writeReg a r
  .ok (t.setStatus (s.status.withCarry c))

/-! ## The bus -/

/-- The kind of the region that holds the whole of an access of `n` bytes at `a`; none is the fault of R95 (D28). -/
def State.regionOf (s : State) (a n : Nat) : Except Fault RegionKind :=
  match s.cfg.memMap.find? fun r => decide (r.base ≤ a ∧ a + n ≤ r.base + r.size) with
  | some r => .ok r.kind
  | none => .error .unmapped

/-- `MemRead(a, 4)` (R82); a peripheral answers a free value (R91, log entry 7). -/
def State.busReadWord (s : State) (a : Word) : Except Fault (Word × State) :=
  match s.regionOf a.toNat 4 with
  | .ok .device => .ok (Config.freeWord s.freeCtr, s.drawFree)
  | .ok _ => .ok (s.mem.readWord a.toNat, s)
  | .error f => .error f

/-- `MemRead(a, 2)`, the read of an instruction (R84). -/
def State.busReadHalf (s : State) (a : Word) : Except Fault (Half × State) :=
  match s.regionOf a.toNat 2 with
  | .ok .device => .ok ((Config.freeWord s.freeCtr).setWidth 16, s.drawFree)
  | .ok _ => .ok (s.mem.readHalf a.toNat, s)
  | .error f => .error f

/-- `MemWrite(a, n, v)` with the bytes of `v` (R86); ROM ignores it and a peripheral keeps what it does to itself
(D28, U29, log entry 7). -/
def State.busWrite (s : State) (a : Word) (bytes : List Byte) : Except Fault State :=
  match s.regionOf a.toNat bytes.length with
  | .ok .ram => .ok (s.setMem (s.mem.writeBytes a.toNat bytes))
  | .ok _ => .ok s
  | .error f => .error f

/-! ## The data cache (R98 to R104) -/

/-- `dindex(a)` (R98). -/
def dindex (c : Config) (a : Word) : Nat := (align32 a).toNat % c.dcacheSize / 4

/-- `dtag(a)` (R98). -/
def dtag (c : Config) (a : Word) : Nat := (align32 a).toNat / c.dcacheSize

/-- `dline[dindex(a)]` (R98). -/
def State.dline (s : State) (a : Word) : DLine := sparseGet .unknown s.dcache (dindex s.cfg a)

/-- `dline[dindex(a)] <- l`. -/
def State.setDline (s : State) (a : Word) (l : DLine) : State :=
  s.setDcache (sparseSet .unknown s.dcache (dindex s.cfg a) l)

/-- A miss: read memory and fill the line (R99). -/
def State.dataFill (s : State) (w : Word) : Except Fault (Word × State) := do
  let (v, t) ← s.busReadWord w
  .ok (v, t.setDline w (.valid (dtag s.cfg w) v))

/-- `DataLoad(w, bypass)` (R99, R101). -/
def State.dataLoad (s : State) (w : Word) (bypass : Bool) : Except Fault (Word × State) :=
  if !s.cfg.hasDCache || !s.status.dc || bypass then s.busReadWord w
  else
    match s.dline w with
    | .unknown => .error .dcacheUninitialised
    | .invalid => s.dataFill w
    | .valid tag d => if tag = dtag s.cfg w then .ok (d, s) else s.dataFill w

/-- `x[A] <- DataLoad(w, bypass)` (R221). -/
def State.loadInto (s : State) (a : RegNum) (w : Word) (bypass : Bool) : Except Fault State := do
  let (v, t) ← s.dataLoad w bypass
  t.writeReg a v

/-- `WordStore(w, v)` (R100): memory and, where there is a data cache, its line, whether DC is 0 or 1 (D27). -/
def State.wordStore (s : State) (w v : Word) : Except Fault State := do
  let t ← s.busWrite w (wordBytes v)
  if t.cfg.hasDCache then .ok (t.setDline w (.valid (dtag t.cfg w) v)) else .ok t

/-- What a partial-width store does to the data cache: a matching valid line becomes invalid (R102 (a), D27). -/
def State.dropDline (s : State) (w : Word) : State :=
  if s.cfg.hasDCache then
    match s.dline w with
    | .valid tag _ => if tag = dtag s.cfg w then s.setDline w .invalid else s
    | _ => s
  else s

/-- `PartialStore(w, 1, n)`: byte lane `n` of `r0` into byte lane `n` of the word at `w` (R86, R227). -/
def State.byteStore (s : State) (w : Word) (n : BitVec 2) (r0 : Word) : Except Fault State := do
  let t ← s.busWrite (byteAddress w n) [byteOf r0 n]
  .ok (t.dropDline w)

/-- `PartialStore(w, 2, n)`: half-word lane `n` of `r0` into half-word lane `n` of the word at `w` (R86, R229). -/
def State.halfStore (s : State) (w : Word) (n : BitVec 1) (r0 : Word) : Except Fault State := do
  let t ← s.busWrite (halfAddress w n) (halfBytes (halfOf r0 n))
  .ok (t.dropDline w)

/-! ## The instruction cache (R105 to R109) -/

/-- `iindex(a)` (R105); bit 0 of the address is ignored (R108). -/
def iindex (c : Config) (a : Word) : Nat := (a &&& 0xFFFFFFFE#32).toNat % c.icacheSize / 2

/-- `itag(a)` (R105). -/
def itag (c : Config) (a : Word) : Nat := (a &&& 0xFFFFFFFE#32).toNat / c.icacheSize

/-- `iline[iindex(a)]` (R105). -/
def State.iline (s : State) (a : Word) : ILine := sparseGet .unknown s.icache (iindex s.cfg a)

/-- `iline[iindex(a)] <- l`. -/
def State.setIline (s : State) (a : Word) (l : ILine) : State :=
  s.setIcache (sparseSet .unknown s.icache (iindex s.cfg a) l)

/-- A miss: read memory and fill the line (R107). -/
def State.fetchFill (s : State) (a : Word) : Except Fault (Half × State) := do
  let (v, t) ← s.busReadHalf a
  .ok (v, t.setIline a (.valid (itag s.cfg a) v))

/-- `Fetch(a)` (R107). -/
def State.fetch (s : State) (a : Word) : Except Fault (Half × State) :=
  if !s.cfg.hasICache || !s.status.ic then s.busReadHalf a
  else
    match s.iline a with
    | .unknown => .error .icacheUninitialised
    | .invalid => s.fetchFill a
    | .valid tag w => if tag = itag s.cfg a then .ok (w, s) else s.fetchFill a

/-! ## The end of an instruction (R43) -/

/-- `next` before the instruction acts: the pending branch target, else `pc + 2` (R43 step 4). -/
def State.nextPc (s : State) : Word := s.delay.getD (s.pc + 2#32)

/-- Steps 6 and 7 of R43 for an instruction other than a prefix: K, `pfx`, `iobyp` clear, no branch pending, `pc <- t`. -/
def State.goto (s : State) (t : Word) : State := (s.setPfx 0#11 false false).setPc t none

/-- The same for an instruction after which execution goes on in sequence (or at a pending branch target). -/
def State.retire (s : State) : State := s.goto s.nextPc

/-- A taken BR, BSR, JMP or CALL: the slot at `pc + 2` executes next and `target` after it (R270). -/
def State.branchTo (s : State) (target : Word) : State :=
  (s.setPfx 0#11 false false).setPc (s.pc + 2#32) (some target)

/-- PFX and PFXIO: `K <- IMM11` and on to the next instruction (R250, R251). -/
def State.loadPrefix (s : State) (imm : BitVec 11) (io : Bool) : State :=
  (s.setPfx imm true io).setPc s.nextPc none

/-- Every instruction but LD and LDP: PFXIO before it is UNSPECIFIED (R251, U2). -/
def State.notAfterPfxio (s : State) (r : Result) : Result := if s.iobyp then .fault .pfxioTarget else r

/-- One of the thirteen instructions of R276: UNSPECIFIED in a delay slot (U11). -/
def State.notInSlot (s : State) (r : Result) : Result := if s.delay.isSome then .fault .delaySlot else r

/-- An instruction that acts on the state and goes on in sequence; LD and LDP may do so after PFXIO (R251). -/
def goOn (body : Except Fault State) : Result := finish (body.map State.retire)

/-- Every other instruction that acts on the state and goes on in sequence. -/
def State.plain (s : State) (body : Except Fault State) : Result :=
  s.notAfterPfxio (goOn body)

/-- An instruction that sets where execution goes on and may not stand in a delay slot. -/
def State.transfer (s : State) (body : Except Fault State) : Result :=
  s.notInSlot (s.notAfterPfxio (finish body))

/-- PFX or PFXIO: UNSPECIFIED in a delay slot (U11) and directly after a prefix (U1). -/
def State.takePrefix (s : State) (imm : BitVec 11) (io : Bool) : Result :=
  s.notInSlot (if s.pfx then .fault .pfxPfx else s.notAfterPfxio (.next (s.loadPrefix imm io)))

/-- The word is PFX or PFXIO: bits 15..12 are 1001 (R253). -/
def isPrefixWord (w : Half) : Bool := w &&& 0xF000#16 == 0x9000#16

/-- Where a skip goes: past the next instruction, and past its prefix too (R253). -/
def State.skip (s : State) : Except Fault State := do
  let (w, t) ← s.fetch (s.pc + 2#32)
  .ok (t.goto (if isPrefixWord w then s.pc + 6#32 else s.pc + 4#32))

/-- The skip rule with the test `cond` (R253). -/
def State.skipIf (s : State) (cond : Bool) : Except Fault State :=
  if cond then s.skip else .ok (s.goto (s.pc + 2#32))

/-! ## Taking an exception and returning from one -/

/-- `handler`: the vector of exception `n`, doubled; read past the data cache (R323, D18). -/
def State.vectorFetch (s : State) (n : BitVec 6) : Except Fault (Word × State) := do
  let (v, t) ← s.busReadWord (s.cfg.vecBase + n.setWidth 32 * 4#32)
  .ok (codeAddress v, t)

/-- STATUS in the handler: IE = 0, IPRI = the exception's number, and, where `dec`, the next window down (R335). -/
def Status.entered (st : Status) (n : BitVec 6) (dec : Bool) : Status :=
  { st with ie := false, ipri := n, cwp := if dec then st.cwp - 1#5 else st.cwp }

/-- STATUS with another window in force (R51). -/
def Status.withCwp (st : Status) (w : BitVec 5) : Status := { st with cwp := w }

/-- `Enter(n, ret, dec)` (R335): STATUS saved in ISTATUS, the return address in %o7 of the new window, K and the hidden
bits clear, `pc` at the handler. -/
def State.enter (s : State) (n : BitVec 6) (ret : Word) (dec : Bool) : Except Fault State := do
  let t ← ((s.setIstatus s.status).setStatus (s.status.entered n dec)).writeReg 15#5 (returnAddress ret)
  let (h, u) ← t.vectorFetch n
  .ok ((u.goto h).setNopdue false)

/-- TRET: `STATUS <- ISTATUS; pc <- t` (R293, R340); DC and IC subject to R47 and R48. -/
def State.leave (s : State) (t : Word) : State := (s.setStatus (s.istatus.present s.cfg)).goto t

/-- An internal exception numbered `n` is processed: IE = 1 and `n < IPRI` (R290, R291).
DESIGN CHOICE (log entry 15): the manual states the masking of number 1 only. -/
def State.unmasked (s : State) (n : BitVec 6) : Bool := s.status.ie && decide (n.toNat < s.status.ipri.toNat)

/-! ## Control registers -/

/-- `ctl[K]` as RDCTL reads it (R294); a write-only register gives a free value (U6, U7, U8). -/
def State.readCtl (s : State) : Except Fault (Word × State) :=
  match s.k.toNat with
  | 0 => .ok (s.status.toWord, s)
  | 1 => .ok (s.istatus.toWord, s)
  | 2 => .ok (s.wvalid.toWord, s)
  | 5 => .ok (Config.freeWord s.freeCtr, s.drawFree)
  | 6 => .ok (s.cfg.cpuId.setWidth 32, s)
  | 7 => .ok (Config.freeWord s.freeCtr, s.drawFree)
  | 8 => .ok (Config.freeWord s.freeCtr, s.drawFree)
  | 9 => .ok (Config.freeWord s.freeCtr, s.drawFree)
  | _ => .error .reservedCtl

/-- `STATUS <- v` (R296), with the NOP it makes due (R381). -/
def State.writeStatus (s : State) (v : Word) : State :=
  (s.setStatus ((Status.ofWord v).present s.cfg)).setNopdue true

/-- `WriteICACHE(v)` (R108).
DEDUCED (log entry 40): the line is made invalid whatever its tag. -/
def State.writeICache (s : State) (v : Word) : Except Fault State :=
  if !s.cfg.hasICache then .ok s
  else if s.status.ic then .error .icacheWriteEnabled
  else .ok (s.setIline v .invalid)

/-- `WriteDCACHE(v)` (R103).
DEDUCED (log entry 40): the line is made invalid whatever its tag. -/
def State.writeDCache (s : State) (v : Word) : Except Fault State :=
  if !s.cfg.hasDCache then .ok s
  else if s.status.dc then .error .dcacheWriteEnabled
  else .ok (s.setDline v .invalid)

/-- `ctl[K] <- v` (R296). -/
def State.writeCtl (s : State) (v : Word) : Except Fault State :=
  match s.k.toNat with
  | 0 => .ok (s.writeStatus v)
  | 1 => .ok (s.setIstatus ((Status.ofWord v).present s.cfg))
  | 2 => .ok (if s.cfg.wvalidWritable then s.setWvalid (Wvalid.ofWord v) else s)
  | 5 => s.writeICache v
  | 7 => s.writeDCache v
  | 8 => .ok (s.setStatus { s.status with ie := false })
  | 9 => .ok (s.setStatus { s.status with ie := true })
  | _ => .error .reservedCtl

end Sys2Proof.Machine
end

