-- ==== Sys2Proof/Machine/Cycle.lean ====
section
/-! DEFINITION. What a step does around an instruction (10_state.md rule R43, steps 1 to 3): the sampling of the
interrupt inputs and the acceptance of an interrupt (60_exceptions.md rules R325, R326), the fetch and the decoding;
and where an instruction word is placed for the fetch to find it. -/

namespace Sys2Proof.Machine

/-- The inputs are sampled once a step, before the instruction (R325, D17). When the trace is used up they hold their
level.
DESIGN CHOICE (log entry 8): the environment is a trace in the state. -/
def State.sampleInputs (s : State) : State :=
  match s.irqTrace with
  | [] => s
  | x :: rest => s.setInputs x.irq x.number rest

/-- `irq` = 1 with number 0: the debug module's request, refused (R326, R345, D19). -/
def State.debugRequested (s : State) : Bool := s.irq && s.irqNumber == 0#6

/-- Acceptance of an external interrupt (R326). -/
def State.interruptAccepted (s : State) : Bool :=
  s.irq && s.status.ie && decide (s.irqNumber.toNat < s.status.ipri.toNat) && !s.pfx && s.delay.isNone && !s.nopdue

/-- Entry of an external interrupt: the instruction at `pc` has not executed (R326, R336). -/
def State.takeInterrupt (s : State) : Except Fault State := s.enter s.irqNumber s.pc true

/-- The instruction of a fetched word; a word that is none is UNSPECIFIED (R131, U13 to U15). -/
def instrOf (w : Half) : Except Fault Instr :=
  match decode w with
  | .ok i => .ok i
  | .error _ => .error .reservedOpcode

/-- Steps 2 and 3 of R43: fetch at `pc`, the NOP due after a WRCTL to STATUS (R381), decode. -/
def State.fetchInstr (s : State) : Except Fault (Instr × State) := do
  let (w, t) ← s.fetch s.pc
  if t.nopdue && w != 0x3000#16 then .error .wrctlStatusNoNop
  else do
    let i ← instrOf w
    .ok (i, t.setNopdue false)

/-- The word `w` in memory at `pc`, low byte first (R84). -/
def State.placeInMemory (s : State) (w : Half) : State := s.setMem (s.mem.writeBytes s.pc.toNat (halfBytes w))

/-- The word `w` where the fetch at `pc` finds it: in memory and, where the instruction cache is on, in its line. -/
def State.placeWord (s : State) (w : Half) : State :=
  if s.cfg.hasICache && s.status.ic then (s.placeInMemory w).setIline s.pc (.valid (itag s.cfg s.pc) w)
  else s.placeInMemory w

end Sys2Proof.Machine
end

