-- ==== Sys2Proof/Machine/Arithmetic.lean ====
section
/-! DEFINITION. Arithmetic, compare, logic and multiply (40_arithmetic_logic.md rules R163 to R177): one meaning per
instruction, over the shared operations of Ops, Operands and Flags. -/

namespace Sys2Proof.Machine

/-- ADD (R163): `x[A] <- x[A] + x[B]`; N, V, Z, C. -/
def execAdd (a b : RegNum) (s : State) : Result := s.plain do
  let y ← s.readReg b
  s.addTo a y

/-- ADDI (R164): `x[A] <- x[A] + zext_16(K : IMM5)`; N, V, Z, C. -/
def execAddi (a : RegNum) (imm : BitVec 5) (s : State) : Result := s.plain (s.addTo a (immOperand s.k imm))

/-- SUB (R165): `x[A] <- x[A] - x[B]`; N, V, Z, C. -/
def execSub (a b : RegNum) (s : State) : Result := s.plain do
  let y ← s.readReg b
  s.subFrom a y

/-- SUBI (R166): `x[A] <- x[A] - zext_16(K : IMM5)`; N, V, Z, C. -/
def execSubi (a : RegNum) (imm : BitVec 5) (s : State) : Result := s.plain (s.subFrom a (immOperand s.k imm))

/-- CMP (R167): the flags of `x[A] - x[B]`. -/
def execCmp (a b : RegNum) (s : State) : Result := s.plain do
  let y ← s.readReg b
  s.compareWith a y

/-- CMPI (R168): the flags of `x[A] - zext_16(K : IMM5)`. -/
def execCmpi (a : RegNum) (imm : BitVec 5) (s : State) : Result := s.plain (s.compareWith a (immOperand s.k imm))

/-- AND (R169): `x[A] <- x[A] & operand`; N, Z. -/
def execAnd (a b : RegNum) (s : State) : Result := s.plain (s.logicInto a b fun x y => x &&& y)

/-- ANDN (R170): `x[A] <- x[A] & ~operand`; N, Z. -/
def execAndn (a b : RegNum) (s : State) : Result := s.plain (s.logicInto a b fun x y => x &&& ~~~y)

/-- OR (R171): `x[A] <- x[A] | operand`; N, Z. -/
def execOr (a b : RegNum) (s : State) : Result := s.plain (s.logicInto a b fun x y => x ||| y)

/-- XOR (R172): `x[A] <- x[A] ^ operand`; N, Z. -/
def execXor (a b : RegNum) (s : State) : Result := s.plain (s.logicInto a b fun x y => x ^^^ y)

/-- NOT (R173): `x[A] <- ~x[A]`. -/
def execNot (a : RegNum) (s : State) : Result := s.plain (s.update a fun x => ~~~x)

/-- NEG (R174): `x[A] <- 0 - x[A]`; no flag. -/
def execNeg (a : RegNum) (s : State) : Result := s.plain (s.update a fun x => 0#32 - x)

/-- ABS (R175): `x[A] <- |x[A]|`; no flag. -/
def execAbs (a : RegNum) (s : State) : Result := s.plain (s.update a absValue)

/-- MUL (R176): `x[0] <- x[0][15:0] * x[A][15:0]`, unsigned (90_conflicts.md C5); no flag. -/
def execMul (a : RegNum) (s : State) : Result := s.plain (s.combine 0#5 a mulLow)

/-- MSTEP (R177): one step of an unsigned multiply into %r0; no flag. -/
def execMstep (a : RegNum) (s : State) : Result := s.plain (s.combine 0#5 a multiplyStep)

end Sys2Proof.Machine
end

