-- ==== Sys2Proof/Machine/Control.lean ====
section
/-! DEFINITION. Branches, jumps and calls (44_control_transfer.md rules R270 to R275). All four are UNSPECIFIED in a delay
slot (R276). -/

namespace Sys2Proof.Machine

/-- BR (R271): `delay <- pc + ((sext_11(IMM11) + 1) << 1)`. -/
def execBr (imm : BitVec 11) (s : State) : Result := s.transfer (.ok (s.branchTo (branchTarget s.pc imm)))

/-- BSR (R272): BR, with `(pc + 4) >> 1` in %o7. -/
def execBsr (imm : BitVec 11) (s : State) : Result := s.transfer do
  let t ← s.writeReg 15#5 (returnAddress (s.pc + 4#32))
  .ok (t.branchTo (branchTarget s.pc imm))

/-- JMP (R273): `delay <- x[A] << 1`. -/
def execJmp (a : RegNum) (s : State) : Result := s.transfer do
  let x ← s.readReg a
  .ok (s.branchTo (codeAddress x))

/-- CALL (R274): JMP, with `(pc + 4) >> 1` in %o7; the target is read before %o7 is written. -/
def execCall (a : RegNum) (s : State) : Result := s.transfer do
  let x ← s.readReg a
  let t ← s.writeReg 15#5 (returnAddress (s.pc + 4#32))
  .ok (t.branchTo (codeAddress x))

end Sys2Proof.Machine
end

