-- ==== Sys2Proof/Machine/Custom.lean ====
section
/-! DEFINITION. The custom instructions USR0 to USR4 (46_custom.md rules R310 to R315): the operation is a constant of Config
without a body, a pure function of the two operands and K (D29, log entry 33). -/

namespace Sys2Proof.Machine

/-- USR0 (R311): `x[A] <- USR_FN[0](x[A], x[B], K)`. -/
def execUsr0 (a b : RegNum) (s : State) : Result := s.plain (s.combine a b fun x y => Config.usrFn 0 x y s.k)

/-- USR1 (R312): `x[A] <- USR_FN[1](x[A], x[0], K)`. -/
def execUsr1 (a : RegNum) (s : State) : Result := s.plain (s.combine a 0#5 fun x y => Config.usrFn 1 x y s.k)

/-- USR2 (R313): `x[A] <- USR_FN[2](x[A], x[0], K)`. -/
def execUsr2 (a : RegNum) (s : State) : Result := s.plain (s.combine a 0#5 fun x y => Config.usrFn 2 x y s.k)

/-- USR3 (R314): `x[A] <- USR_FN[3](x[A], x[0], K)`. -/
def execUsr3 (a : RegNum) (s : State) : Result := s.plain (s.combine a 0#5 fun x y => Config.usrFn 3 x y s.k)

/-- USR4 (R315): `x[A] <- USR_FN[4](x[A], x[0], K)`. -/
def execUsr4 (a : RegNum) (s : State) : Result := s.plain (s.combine a 0#5 fun x y => Config.usrFn 4 x y s.k)

end Sys2Proof.Machine
end

