-- ==== Sys2Proof/Machine/LoadStore.lean ====
section
/-! DEFINITION. Loads and stores (42_load_store.md rules R221 to R232). No flag is written and no exception is raised. -/

namespace Sys2Proof.Machine

/-- LD (R221): `x[A] <- DataLoad(align32(x[B] + sext_11(K) × 4), iobyp)`; it may follow PFXIO. -/
def execLd (a b : RegNum) (s : State) : Result := goOn do
  let base ← s.readReg b
  s.loadInto a (align32 (base + prefixOffset s.k)) s.iobyp

/-- LDP (R222): `x[A] <- DataLoad(align32(x[16 + P] + sext_16(K : IMM5) × 4), iobyp)`; it may follow PFXIO. -/
def execLdp (a : RegNum) (p : BitVec 2) (imm : BitVec 5) (s : State) : Result := goOn do
  let base ← s.readReg (pointerReg p)
  s.loadInto a (align32 (base + pointerOffset s.k imm)) s.iobyp

/-- LDS (R223): `x[A] <- DataLoad(align32(%sp + IMM8 × 4), false)`. -/
def execLds (a : RegNum) (imm : BitVec 8) (s : State) : Result := s.plain do
  let sp ← s.readReg 14#5
  s.loadInto a (align32 (sp + stackOffset imm)) false

/-- ST (R224): `WordStore(align32(x[B] + sext_11(K) × 4), x[A])`. -/
def execSt (a b : RegNum) (s : State) : Result := s.plain do
  let base ← s.readReg b
  let v ← s.readReg a
  s.wordStore (align32 (base + prefixOffset s.k)) v

/-- STP (R225): `WordStore(align32(x[16 + P] + sext_16(K : IMM5) × 4), x[A])`. -/
def execStp (a : RegNum) (p : BitVec 2) (imm : BitVec 5) (s : State) : Result := s.plain do
  let base ← s.readReg (pointerReg p)
  let v ← s.readReg a
  s.wordStore (align32 (base + pointerOffset s.k imm)) v

/-- STS (R226): `WordStore(align32(%sp + IMM8 × 4), x[A])`. -/
def execSts (a : RegNum) (imm : BitVec 8) (s : State) : Result := s.plain do
  let sp ← s.readReg 14#5
  let v ← s.readReg a
  s.wordStore (align32 (sp + stackOffset imm)) v

/-- ST8D (R227): lane `x[A][1:0]` of %r0 into that lane of the word at `align32(x[A] + sext_11(K) × 4)`. -/
def execSt8d (a : RegNum) (s : State) : Result := s.plain do
  let base ← s.readReg a
  let v ← s.readReg 0#5
  s.byteStore (align32 (base + prefixOffset s.k)) (byteLane base) v

/-- ST8S (R228): lane IMM2 of %r0 (90_conflicts.md C13). -/
def execSt8s (a : RegNum) (imm : BitVec 2) (s : State) : Result := s.plain do
  let base ← s.readReg a
  let v ← s.readReg 0#5
  s.byteStore (align32 (base + prefixOffset s.k)) imm v

/-- ST16D (R229): half-word lane `x[A][1]` of %r0. -/
def execSt16d (a : RegNum) (s : State) : Result := s.plain do
  let base ← s.readReg a
  let v ← s.readReg 0#5
  s.halfStore (align32 (base + prefixOffset s.k)) (halfLane base) v

/-- ST16S (R230): half-word lane IMM1 of %r0 (90_conflicts.md C13). -/
def execSt16s (a : RegNum) (imm : BitVec 1) (s : State) : Result := s.plain do
  let base ← s.readReg a
  let v ← s.readReg 0#5
  s.halfStore (align32 (base + prefixOffset s.k)) imm v

/-- STS8S (R231): lane `IMM10[1:0]` of %r0 into the word at `align32(%sp + IMM10)`. -/
def execSts8s (imm : BitVec 10) (s : State) : Result := s.plain do
  let sp ← s.readReg 14#5
  let v ← s.readReg 0#5
  s.byteStore (stackByteWord sp imm) (stackByteLane imm) v

/-- STS16S (R232): half-word lane `IMM9[0]` of %r0 into the word at `align32(%sp + IMM9 × 2)`. -/
def execSts16s (imm : BitVec 9) (s : State) : Result := s.plain do
  let sp ← s.readReg 14#5
  let v ← s.readReg 0#5
  s.halfStore (stackHalfWord sp imm) (stackHalfLane imm) v

end Sys2Proof.Machine
end

