-- ==== Sys2Proof/Machine/Prefix.lean ====
section
/-! DEFINITION. Prefixes and skips (43_prefix_skip.md rules R250 to R259). All seven are UNSPECIFIED in a delay slot (R276). -/

namespace Sys2Proof.Machine

/-- PFX (R250): `K <- IMM11`. -/
def execPfx (imm : BitVec 11) (s : State) : Result := s.takePrefix imm false

/-- PFXIO (R251): `K <- IMM11`, and the LD or LDP that follows bypasses the data cache. -/
def execPfxio (imm : BitVec 11) (s : State) : Result := s.takePrefix imm true

/-- SKP0 (R254): skip if bit IMM5 of `x[A]` is 0. -/
def execSkp0 (a : RegNum) (imm : BitVec 5) (s : State) : Result := s.transfer do
  let x ← s.readReg a
  s.skipIf (!x.getLsbD imm.toNat)

/-- SKP1 (R255): skip if bit IMM5 of `x[A]` is 1. -/
def execSkp1 (a : RegNum) (imm : BitVec 5) (s : State) : Result := s.transfer do
  let x ← s.readReg a
  s.skipIf (x.getLsbD imm.toNat)

/-- SKPRZ (R256): skip if `x[A]` is 0. -/
def execSkprz (a : RegNum) (s : State) : Result := s.transfer do
  let x ← s.readReg a
  s.skipIf (x == 0#32)

/-- SKPRNZ (R259): skip if `x[A]` is not 0. -/
def execSkprnz (a : RegNum) (s : State) : Result := s.transfer do
  let x ← s.readReg a
  s.skipIf (x != 0#32)

/-- SKPS (R257): skip if the condition holds; a code without a condition is UNSPECIFIED (U15). -/
def execSkps (cc : BitVec 4) (s : State) : Result := s.transfer <|
  match s.status.condition cc with
  | some cond => s.skipIf cond
  | none => .error .reservedOpcode

end Sys2Proof.Machine
end

