-- ==== Sys2Proof/Machine/Shift.lean ====
section
/-! DEFINITION. Shifts, rotates, moves, extraction, sign extension and fill (41_shift_move_bitfield.md rules R190 to R211).
None of them but RLC and RRC touches a flag. -/

namespace Sys2Proof.Machine

/-- LSL (R191): `x[A] <- x[A] << x[B][4:0]`. -/
def execLsl (a b : RegNum) (s : State) : Result := s.plain (s.combine a b fun x y => x <<< (shiftAmount y).toNat)

/-- LSLI (R192): `x[A] <- x[A] << IMM5`; K is ignored (R190). -/
def execLsli (a : RegNum) (imm : BitVec 5) (s : State) : Result := s.plain (s.update a fun x => x <<< imm.toNat)

/-- LSR (R193): `x[A] <- x[A] >> x[B][4:0]`, zero-filled. -/
def execLsr (a b : RegNum) (s : State) : Result := s.plain (s.combine a b fun x y => x >>> (shiftAmount y).toNat)

/-- LSRI (R194): `x[A] <- x[A] >> IMM5`, zero-filled. -/
def execLsri (a : RegNum) (imm : BitVec 5) (s : State) : Result := s.plain (s.update a fun x => x >>> imm.toNat)

/-- ASR (R195): `x[A] >> x[B][4:0]` filled with the sign. -/
def execAsr (a b : RegNum) (s : State) : Result :=
  s.plain (s.combine a b fun x y => x.sshiftRight (shiftAmount y).toNat)

/-- ASRI (R196): `x[A] >> IMM5` filled with the sign. -/
def execAsri (a : RegNum) (imm : BitVec 5) (s : State) : Result := s.plain (s.update a fun x => x.sshiftRight imm.toNat)

/-- RLC (R197): the 33-bit rotation of C : RA to the left; both right-hand sides are the old values (90_conflicts.md C23). -/
def execRlc (a : RegNum) (s : State) : Result := s.plain do
  let x ← s.readReg a
  s.rotateInto a (rotateLeftCarry s.status.c x) x.msb

/-- RRC (R198): the rotation to the right. -/
def execRrc (a : RegNum) (s : State) : Result := s.plain do
  let x ← s.readReg a
  s.rotateInto a (rotateRightCarry s.status.c x) (x.getLsbD 0)

/-- MOV (R199): `x[A] <- x[B]`; NOP is MOV %g0,%g0, whose read and write change nothing. -/
def execMov (a b : RegNum) (s : State) : Result := s.plain do
  let y ← s.readReg b
  s.writeReg a y

/-- MOVI (R200): `x[A] <- zext_16(K : IMM5)`. -/
def execMovi (a : RegNum) (imm : BitVec 5) (s : State) : Result := s.plain (s.writeReg a (immOperand s.k imm))

/-- MOVHI (R201): `x[A][31:16] <- K : IMM5`. -/
def execMovhi (a : RegNum) (imm : BitVec 5) (s : State) : Result := s.plain (s.update a (withHighHalf s.k imm))

/-- BGEN (R202): `x[A] <- 1 << IMM5`. -/
def execBgen (a : RegNum) (imm : BitVec 5) (s : State) : Result := s.plain (s.writeReg a (1#32 <<< imm.toNat))

/-- SWAP (R203): the half-words of `x[A]` change places. -/
def execSwap (a : RegNum) (s : State) : Result := s.plain (s.update a swapHalves)

/-- SEXT8 (R204): `x[A] <- sext_8(x[A][7:0])`. -/
def execSext8 (a : RegNum) (s : State) : Result := s.plain (s.update a fun x => (byteOf x 0#2).signExtend 32)

/-- SEXT16 (R205): `x[A] <- sext_16(x[A][15:0])`. -/
def execSext16 (a : RegNum) (s : State) : Result := s.plain (s.update a fun x => (halfOf x 0#1).signExtend 32)

/-- EXT8D (R206): `x[A] <- byte(x[A], x[B][1:0])`. -/
def execExt8d (a b : RegNum) (s : State) : Result :=
  s.plain (s.combine a b fun x y => (byteOf x (byteLane y)).setWidth 32)

/-- EXT8S (R207): `x[A] <- byte(x[A], IMM2)`. -/
def execExt8s (a : RegNum) (imm : BitVec 2) (s : State) : Result :=
  s.plain (s.update a fun x => (byteOf x imm).setWidth 32)

/-- EXT16D (R208): `x[A] <- half(x[A], x[B][1])`. -/
def execExt16d (a b : RegNum) (s : State) : Result :=
  s.plain (s.combine a b fun x y => (halfOf x (halfLane y)).setWidth 32)

/-- EXT16S (R209): `x[A] <- half(x[A], IMM1)`. -/
def execExt16s (a : RegNum) (imm : BitVec 1) (s : State) : Result :=
  s.plain (s.update a fun x => (halfOf x imm).setWidth 32)

/-- FILL8 (R210): the low byte of `x[A]` in every byte of %r0. -/
def execFill8 (a : RegNum) (s : State) : Result := s.plain do
  let x ← s.readReg a
  s.writeReg 0#5 (fillByte (byteOf x 0#2))

/-- FILL16 (R211): the low half-word of `x[A]` in both half-words of %r0. -/
def execFill16 (a : RegNum) (s : State) : Result := s.plain do
  let x ← s.readReg a
  s.writeReg 0#5 (fillHalf (halfOf x 0#1))

end Sys2Proof.Machine
end

