-- ==== Sys2Proof/Machine/Window.lean ====
section
/-! DEFINITION. Windows, traps and control registers (45_window_trap_control.md rules R290 to R296). -/

namespace Sys2Proof.Machine

/-- SAVE (R290): the window below, `%sp <- %fp - IMM8 × 4` there, and window underflow (number 1) where the window left
was LO_LIMIT and the exception is not masked. A masked one is dropped (D6, log entry 11). -/
def execSave (imm : BitVec 8) (s : State) : Result := s.notAfterPfxio <| finish do
  let t := s.setStatus (s.status.withCwp (s.status.cwp - 1#5))
  let fp ← t.readReg 30#5
  let u ← t.writeReg 14#5 (fp - stackOffset imm)
  if s.status.cwp == s.wvalid.loLimit && s.unmasked 1#6 then u.enter 1#6 s.nextPc false else .ok u.retire

/-- RESTORE (R291): the window above, and window overflow (number 2) where the window left was HI_LIMIT and the
exception is not masked. -/
def execRestore (s : State) : Result := s.notAfterPfxio <| finish <|
  let t := s.setStatus (s.status.withCwp (s.status.cwp + 1#5))
  if s.status.cwp == s.wvalid.hiLimit && s.unmasked 2#6 then t.enter 2#6 s.nextPc true else .ok t.retire

/-- TRAP (R292): exception IMM6 whatever IE and IPRI are; number 0 is not for software (U16). -/
def execTrap (imm : BitVec 6) (s : State) : Result := s.transfer <|
  if imm = 0#6 then .error .trapZero else s.enter imm (s.pc + 2#32) true

/-- TRET (R293): `STATUS <- ISTATUS` and on at `x[A] << 1`, read through the window in force before. -/
def execTret (a : RegNum) (s : State) : Result := s.transfer do
  let x ← s.readReg a
  .ok (s.leave (codeAddress x))

/-- RDCTL (R294): `x[A] <- ctl[K]`. -/
def execRdctl (a : RegNum) (s : State) : Result := s.plain do
  let (v, t) ← s.readCtl
  t.writeReg a v

/-- WRCTL (R295): `ctl[K] <- x[A]`. -/
def execWrctl (a : RegNum) (s : State) : Result := s.plain do
  let v ← s.readReg a
  s.writeCtl v

end Sys2Proof.Machine
end

