-- ==== Sys2Proof/Machine/Dispatch.lean ====
section
/-! DEFINITION. The one place where an instruction meets its meaning (30_encoding.md rule R146): one arm per
constructor of `Instr`. -/

namespace Sys2Proof.Machine

def exec (i : Instr) (s : State) : Host.Outcome State Fault Refusal :=
  match i with
  | .add a b => Sys2Proof.Machine.execAdd a b s
  | .addi a imm => Sys2Proof.Machine.execAddi a imm s
  | .sub a b => Sys2Proof.Machine.execSub a b s
  | .subi a imm => Sys2Proof.Machine.execSubi a imm s
  | .cmp a b => Sys2Proof.Machine.execCmp a b s
  | .cmpi a imm => Sys2Proof.Machine.execCmpi a imm s
  | .lsl a b => Sys2Proof.Machine.execLsl a b s
  | .lsli a imm => Sys2Proof.Machine.execLsli a imm s
  | .lsr a b => Sys2Proof.Machine.execLsr a b s
  | .lsri a imm => Sys2Proof.Machine.execLsri a imm s
  | .asr a b => Sys2Proof.Machine.execAsr a b s
  | .asri a imm => Sys2Proof.Machine.execAsri a imm s
  | .mov a b => Sys2Proof.Machine.execMov a b s
  | .movi a imm => Sys2Proof.Machine.execMovi a imm s
  | .and a b => Sys2Proof.Machine.execAnd a b s
  | .andn a b => Sys2Proof.Machine.execAndn a b s
  | .or a b => Sys2Proof.Machine.execOr a b s
  | .xor a b => Sys2Proof.Machine.execXor a b s
  | .bgen a imm => Sys2Proof.Machine.execBgen a imm s
  | .ext8d a b => Sys2Proof.Machine.execExt8d a b s
  | .skp0 a imm => Sys2Proof.Machine.execSkp0 a imm s
  | .skp1 a imm => Sys2Proof.Machine.execSkp1 a imm s
  | .ld a b => Sys2Proof.Machine.execLd a b s
  | .st a b => Sys2Proof.Machine.execSt a b s
  | .sts8s imm => Sys2Proof.Machine.execSts8s imm s
  | .sts16s imm => Sys2Proof.Machine.execSts16s imm s
  | .ext16d a b => Sys2Proof.Machine.execExt16d a b s
  | .movhi a imm => Sys2Proof.Machine.execMovhi a imm s
  | .usr0 a b => Sys2Proof.Machine.execUsr0 a b s
  | .ext8s a imm => Sys2Proof.Machine.execExt8s a imm s
  | .ext16s a imm => Sys2Proof.Machine.execExt16s a imm s
  | .st8s a imm => Sys2Proof.Machine.execSt8s a imm s
  | .st16s a imm => Sys2Proof.Machine.execSt16s a imm s
  | .save imm => Sys2Proof.Machine.execSave imm s
  | .trap imm => Sys2Proof.Machine.execTrap imm s
  | .not a => Sys2Proof.Machine.execNot a s
  | .neg a => Sys2Proof.Machine.execNeg a s
  | .abs a => Sys2Proof.Machine.execAbs a s
  | .sext8 a => Sys2Proof.Machine.execSext8 a s
  | .sext16 a => Sys2Proof.Machine.execSext16 a s
  | .rlc a => Sys2Proof.Machine.execRlc a s
  | .rrc a => Sys2Proof.Machine.execRrc a s
  | .swap a => Sys2Proof.Machine.execSwap a s
  | .usr1 a => Sys2Proof.Machine.execUsr1 a s
  | .usr2 a => Sys2Proof.Machine.execUsr2 a s
  | .usr3 a => Sys2Proof.Machine.execUsr3 a s
  | .usr4 a => Sys2Proof.Machine.execUsr4 a s
  | .restore => Sys2Proof.Machine.execRestore s
  | .tret a => Sys2Proof.Machine.execTret a s
  | .st8d a => Sys2Proof.Machine.execSt8d a s
  | .st16d a => Sys2Proof.Machine.execSt16d a s
  | .fill8 a => Sys2Proof.Machine.execFill8 a s
  | .fill16 a => Sys2Proof.Machine.execFill16 a s
  | .mstep a => Sys2Proof.Machine.execMstep a s
  | .mul a => Sys2Proof.Machine.execMul a s
  | .skprz a => Sys2Proof.Machine.execSkprz a s
  | .skps cc => Sys2Proof.Machine.execSkps cc s
  | .wrctl a => Sys2Proof.Machine.execWrctl a s
  | .rdctl a => Sys2Proof.Machine.execRdctl a s
  | .skprnz a => Sys2Proof.Machine.execSkprnz a s
  | .jmp a => Sys2Proof.Machine.execJmp a s
  | .call a => Sys2Proof.Machine.execCall a s
  | .br imm => Sys2Proof.Machine.execBr imm s
  | .bsr imm => Sys2Proof.Machine.execBsr imm s
  | .pfxio imm => Sys2Proof.Machine.execPfxio imm s
  | .pfx imm => Sys2Proof.Machine.execPfx imm s
  | .stp a p imm => Sys2Proof.Machine.execStp a p imm s
  | .ldp a p imm => Sys2Proof.Machine.execLdp a p imm s
  | .sts a imm => Sys2Proof.Machine.execSts a imm s
  | .lds a imm => Sys2Proof.Machine.execLds a imm s

end Sys2Proof.Machine
end

