-- ==== Sys2Proof/Machine/Step.lean ====
section
/-! DEFINITION. One step of the CPU (10_state.md rule R43) and the placing of an instruction where the next step
fetches. -/

namespace Sys2Proof.Machine

/-- One step: sample the inputs, take an accepted interrupt, else fetch, decode and execute one instruction (R43). -/
def step (s : State) : Host.Outcome State Fault Refusal :=
  let t := s.sampleInputs
  if t.debugRequested then .refused .debugException
  else if t.interruptAccepted then finish t.takeInterrupt
  else
    match t.fetchInstr with
    | .ok (i, u) => exec i u
    | .error f => .fault f

/-- `s` with the instruction whose bits are `w` stored at `pc`. -/
def State.withFetchWord (s : State) (nbits w : Nat) : State := s.placeWord (BitVec.ofNat 16 (w % 2 ^ nbits))

end Sys2Proof.Machine
end

