-- ==== Sys2Proof/Safety.lean ====
section
/-! DEFINITION. What counts as a sound state and a safe run, and the words the statements use: a register's value, the
state an instruction or an exception leaves, written out field by field, and which instructions may change what. -/

namespace Sys2Proof.Machine

/-! ## Sound states -/

/-- What every step keeps. None of it is special to runs from reset. -/
structure Sound (s : State) : Prop where
  /-- the parameters meet the spec's constraints (R9, D1, D8, D12) -/
  config : s.cfg.valid = true
  /-- memory is in its canonical form, inside the 32-bit space (R64) -/
  memory : s.mem.wf = true
  /-- the register file holds `NREGS` registers (R30) -/
  registers : s.regs.length = s.cfg.regFile.nregs
  /-- "the least-significant bit of the PC value is always 0" (R41) -/
  pcEven : s.pc.getLsbD 0 = false
  /-- a pending branch target is even (R88) -/
  delayEven : ∀ t, s.delay = some t → t.getLsbD 0 = false
  /-- K is nonzero only after a prefix (R38) -/
  kOnlyAfterPrefix : s.pfx = false → s.k = 0#11
  /-- PFXIO is a prefix (R40) -/
  iobypIsPrefix : s.iobyp = true → s.pfx = true
  /-- a prefix never stands in a delay slot (R276) -/
  prefixNotInSlot : s.pfx = true → s.delay = none
  /-- a WRCTL to STATUS leaves neither a prefix nor a branch pending (R43) -/
  nopdueAlone : s.nopdue = true → s.pfx = false ∧ s.delay = none
  /-- DC is 0 without a data cache (R47) -/
  dcPresent : s.status.dc = true → s.cfg.hasDCache = true
  /-- IC is 0 without an instruction cache (R48) -/
  icPresent : s.status.ic = true → s.cfg.hasICache = true
  /-- the same in ISTATUS (R296) -/
  savedDcPresent : s.istatus.dc = true → s.cfg.hasDCache = true
  /-- the same in ISTATUS (R296) -/
  savedIcPresent : s.istatus.ic = true → s.cfg.hasICache = true
  /-- the data cache is in canonical form -/
  dcacheForm : sparseWf .unknown s.dcache = true
  /-- and has `DLINES` lines (R98) -/
  dcacheLines : ∀ e ∈ s.dcache, s.cfg.hasDCache = true ∧ e.1 < s.cfg.dcacheSize / 4
  /-- the instruction cache is in canonical form -/
  icacheForm : sparseWf .unknown s.icache = true
  /-- and has `ILINES` lines (R105) -/
  icacheLines : ∀ e ∈ s.icache, s.cfg.hasICache = true ∧ e.1 < s.cfg.icacheSize / 2

/-- The first `n` steps end in no fault and no refusal. -/
def SafeRun (n : Nat) (s : State) : Prop := ∃ t, Sys2Proof.core.run n s = .next t

/-! ## Registers -/

/-- `x[r] = v` (R33). -/
def Holds (s : State) (r : RegNum) (v : Word) : Prop := s.regs[phys s.status.cwp r]? = some v

/-- The register `x[r]` lies inside the file (R34). -/
def RegExists (s : State) (r : RegNum) : Prop := phys s.status.cwp r < s.regs.length

/-- `s` with `x[r] = v` and nothing else changed. -/
def State.withReg (s : State) (r : RegNum) (v : Word) : State :=
  { s with regs := s.regs.set (phys s.status.cwp r) v }

/-! ## Where execution goes on -/

/-- `s` gone on to `t`: the prefix state is clear and no branch is pending (R43 steps 6 and 7). -/
def State.jumped (s : State) (t : Word) : State :=
  { s with pc := t, delay := none, k := 0#11, pfx := false, iobyp := false }

/-- `s` gone on in sequence: to `pc + 2`, or from a delay slot to the branch target (R43). -/
def State.advanced (s : State) : State := s.jumped (s.delay.getD (s.pc + 2#32))

/-- `s` with a branch taken: the slot at `pc + 2` is next and `target` follows it (R270). -/
def State.branched (s : State) (target : Word) : State :=
  { s with pc := s.pc + 2#32, delay := some target, k := 0#11, pfx := false, iobyp := false }

/-- `s` in the handler of exception `n` (R335): `saved` in ISTATUS, the window `w` in force, the return address in its
%o7, the handler's half-word address `vector` doubled in `pc`, and `f` free values drawn so far. -/
def State.inHandler (s : State) (saved : Status) (w : BitVec 5) (n : BitVec 6) (ret vector : Word) (f : Nat) : State :=
  { s with
    istatus := saved
    status := { saved with ie := false, ipri := n, cwp := w }
    regs := s.regs.set (phys w 15#5) (ret >>> 1)
    k := 0#11
    pfx := false
    iobyp := false
    delay := none
    nopdue := false
    pc := vector <<< 1
    freeCtr := f }

/-! ## Memory and caches -/

/-- No region of the memory map holds the whole of the `n` bytes at `a` (R95). -/
def Unmapped (s : State) (a : Word) (n : Nat) : Prop :=
  ∀ r ∈ s.cfg.memMap, ¬ (r.base ≤ a.toNat ∧ a.toNat + n ≤ r.base + r.size)

/-- A read of the word at `a` gives `v` and leaves `f` free values drawn: memory gives its four bytes, the one at the
lowest address in bits 7..0 (R82); a peripheral gives a free value (log entry 7). -/
def BusWord (s : State) (a v : Word) (f : Nat) : Prop :=
  (∃ k, s.regionOf a.toNat 4 = .ok k ∧ k ≠ .device ∧ f = s.freeCtr ∧
    v = s.mem.readByte (a.toNat + 3) ++ s.mem.readByte (a.toNat + 2) ++ s.mem.readByte (a.toNat + 1) ++
      s.mem.readByte a.toNat) ∨
  (s.regionOf a.toNat 4 = .ok .device ∧ f = s.freeCtr + 1 ∧ v = Config.freeWord s.freeCtr)

/-- The same for the half-word of an instruction (R84). -/
def BusHalf (s : State) (a : Word) (v : Half) (f : Nat) : Prop :=
  (∃ k, s.regionOf a.toNat 2 = .ok k ∧ k ≠ .device ∧ f = s.freeCtr ∧
    v = s.mem.readByte (a.toNat + 1) ++ s.mem.readByte a.toNat) ∨
  (s.regionOf a.toNat 2 = .ok .device ∧ f = s.freeCtr + 1 ∧ v = (Config.freeWord s.freeCtr).setWidth 16)

/-- From `s` to `t` the bytes `l` are stored at `a` and no other byte of memory changes. -/
def StoresAt (s t : State) (a : Nat) (l : List Byte) : Prop :=
  (∀ i (h : i < l.length), t.mem.readByte (a + i) = l[i]) ∧
  ∀ c, c < a ∨ a + l.length ≤ c → t.mem.readByte c = s.mem.readByte c

/-- From `s` to `t` every byte of memory keeps its value. -/
def SameMemory (s t : State) : Prop := ∀ c, t.mem.readByte c = s.mem.readByte c

/-- From `s` to `t` the data-cache line of `w` becomes `l` and every other line keeps its value. -/
def SetsDataLine (s t : State) (w : Word) (l : DLine) : Prop :=
  t.dline w = l ∧ ∀ a, dindex s.cfg a ≠ dindex s.cfg w → t.dline a = s.dline a

/-- From `s` to `t` the instruction-cache line of `w` becomes `l` and every other line keeps its value. -/
def SetsFetchLine (s t : State) (w : Word) (l : ILine) : Prop :=
  t.iline w = l ∧ ∀ a, iindex s.cfg a ≠ iindex s.cfg w → t.iline a = s.iline a

/-- A load of the word at `w` goes past the data cache: there is none, it is disabled, or PFXIO asks for it (R99, R101). -/
def Uncached (s : State) (bypass : Bool) : Prop := s.cfg.hasDCache = false ∨ s.status.dc = false ∨ bypass = true

/-- A load of the word at `w` gives `v` and leaves `f` free values drawn: from the bus where it goes past the cache, from
the cache line where that holds the word, from the bus where an initialised line holds another word or none (R99). -/
def LoadsWord (s : State) (w : Word) (bypass : Bool) (v : Word) (f : Nat) : Prop :=
  (Uncached s bypass ∧ BusWord s w v f) ∨
  (¬ Uncached s bypass ∧ s.dline w = .valid (dtag s.cfg w) v ∧ f = s.freeCtr) ∨
  (¬ Uncached s bypass ∧ (s.dline w = .invalid ∨ ∃ tag d, s.dline w = .valid tag d ∧ tag ≠ dtag s.cfg w) ∧ BusWord s w v f)

/-- The state `t` that a load of `v` from `w` into `x[a]` leaves after `s`: `x[a]` is `v`, a load through the cache
leaves the word in its line, and nothing else changes but where execution goes on and the count `f` of free values. -/
def Loaded (s t : State) (a : RegNum) (w : Word) (bypass : Bool) (v : Word) (f : Nat) : Prop :=
  t = State.advanced { s.withReg a v with dcache := t.dcache, freeCtr := f } ∧
  (Uncached s bypass → t.dcache = s.dcache) ∧
  (¬ Uncached s bypass → SetsDataLine s t w (.valid (dtag s.cfg w) v))

/-- The state `t` that a word store of `v` at the aligned address `w` leaves after `s`, the region of `w` being of kind
`kind`: RAM takes the four bytes, ROM and a peripheral change no byte of memory (D28), and where there is a data cache
the line of `w` holds the word (R100). Nothing else changes but where execution goes on. -/
def WordStored (s t : State) (w v : Word) (kind : RegionKind) : Prop :=
  t = State.advanced { s with mem := t.mem, dcache := t.dcache } ∧
  (kind = .ram → StoresAt s t w.toNat
    [v.extractLsb' 0 8, v.extractLsb' 8 8, v.extractLsb' 16 8, v.extractLsb' 24 8]) ∧
  (kind ≠ .ram → SameMemory s t) ∧
  (s.cfg.hasDCache = true → SetsDataLine s t w (.valid (dtag s.cfg w) v)) ∧
  (s.cfg.hasDCache = false → t.dcache = s.dcache)

/-- The same for a store of the bytes `l` at `a`, inside the aligned word at `w`: a data-cache line that holds the word
becomes invalid (R102 (a), D27). -/
def PartStored (s t : State) (w a : Word) (l : List Byte) (kind : RegionKind) : Prop :=
  t = State.advanced { s with mem := t.mem, dcache := t.dcache } ∧
  (kind = .ram → StoresAt s t a.toNat l) ∧
  (kind ≠ .ram → SameMemory s t) ∧
  ((s.cfg.hasDCache = true ∧ ∃ d, s.dline w = .valid (dtag s.cfg w) d) → SetsDataLine s t w .invalid) ∧
  (¬ (s.cfg.hasDCache = true ∧ ∃ d, s.dline w = .valid (dtag s.cfg w) d) → t.dcache = s.dcache)

/-- The condition of SKPS by its number: the table of R257, line by line. -/
def skipConditions (st : Status) (cc : Fin 14) : Bool :=
  [st.c, !st.c, st.z, !st.z, st.n, !st.n, !(st.n != st.v), st.n != st.v, st.z || (st.n != st.v),
    !(st.z || (st.n != st.v)), st.v, !st.v, st.c || st.z, !(st.c || st.z)][cc]

/-! ## Kinds of instructions -/

/-- PFX and PFXIO (R38). -/
def isPrefix : Instr → Bool
  | .pfx _ => true
  | .pfxio _ => true
  | _ => false

/-- LD and LDP: the two that may follow PFXIO (R251). -/
def mayFollowPfxio : Instr → Bool
  | .ld _ _ => true
  | .ldp _ _ _ => true
  | _ => false

/-- The thirteen that may not stand in a delay slot (R276). -/
def slotForbidden : Instr → Bool
  | .br _ => true
  | .bsr _ => true
  | .jmp _ => true
  | .call _ => true
  | .pfx _ => true
  | .pfxio _ => true
  | .skp0 _ _ => true
  | .skp1 _ _ => true
  | .skprz _ => true
  | .skprnz _ => true
  | .skps _ => true
  | .tret _ => true
  | .trap _ => true
  | _ => false

/-- The nine stores (R64). -/
def isStore : Instr → Bool
  | .st _ _ => true
  | .stp _ _ _ => true
  | .sts _ _ => true
  | .st8s _ _ => true
  | .st8d _ => true
  | .st16s _ _ => true
  | .st16d _ => true
  | .sts8s _ => true
  | .sts16s _ => true
  | _ => false

/-- The three loads (R64). -/
def isLoad : Instr → Bool
  | .ld _ _ => true
  | .ldp _ _ _ => true
  | .lds _ _ => true
  | _ => false

/-- The five skips (R253). -/
def isSkip : Instr → Bool
  | .skp0 _ _ => true
  | .skp1 _ _ => true
  | .skprz _ => true
  | .skprnz _ => true
  | .skps _ => true
  | _ => false

/-- The instructions that write all four flags (first, fourth and fifth rows of R53); of WRCTL, the form with K = 0. -/
def writesAllFlags : Instr → Bool
  | .add _ _ => true
  | .addi _ _ => true
  | .sub _ _ => true
  | .subi _ _ => true
  | .cmp _ _ => true
  | .cmpi _ _ => true
  | .wrctl _ => true
  | .tret _ => true
  | _ => false

/-- The bitwise instructions, which write N and Z alone (second row of R53). -/
def writesLogicFlags : Instr → Bool
  | .and _ _ => true
  | .andn _ _ => true
  | .or _ _ => true
  | .xor _ _ => true
  | _ => false

/-- RLC and RRC, which write C alone (third row of R53). -/
def writesCarryOnly : Instr → Bool
  | .rlc _ => true
  | .rrc _ => true
  | _ => false

/-- The physical registers an instruction reads or writes on every path, in the window `c`: `x[A]`; `x[B]` where it is a
register, which in AND, ANDN, OR and XOR after a prefix (`prefixed`) it is not (R134); %r0 where it is implicit (R35);
the base 16 + P of LDP and STP, %sp of LDS, STS, STS8S and STS16S, %o7 of BSR and CALL; %fp and %sp of the new window
for SAVE and %o7 of the new window for TRAP (R36). -/
def registersNeeded (i : Instr) (prefixed : Bool) (c : BitVec 5) : List Nat :=
  match i with
  | .add a b => [phys c a, phys c b]
  | .addi a _ => [phys c a]
  | .sub a b => [phys c a, phys c b]
  | .subi a _ => [phys c a]
  | .cmp a b => [phys c a, phys c b]
  | .cmpi a _ => [phys c a]
  | .lsl a b => [phys c a, phys c b]
  | .lsli a _ => [phys c a]
  | .lsr a b => [phys c a, phys c b]
  | .lsri a _ => [phys c a]
  | .asr a b => [phys c a, phys c b]
  | .asri a _ => [phys c a]
  | .mov a b => [phys c a, phys c b]
  | .movi a _ => [phys c a]
  | .and a b => if prefixed then [phys c a] else [phys c a, phys c b]
  | .andn a b => if prefixed then [phys c a] else [phys c a, phys c b]
  | .or a b => if prefixed then [phys c a] else [phys c a, phys c b]
  | .xor a b => if prefixed then [phys c a] else [phys c a, phys c b]
  | .bgen a _ => [phys c a]
  | .ext8d a b => [phys c a, phys c b]
  | .skp0 a _ => [phys c a]
  | .skp1 a _ => [phys c a]
  | .ld a b => [phys c a, phys c b]
  | .st a b => [phys c a, phys c b]
  | .sts8s _ => [phys c 14#5, phys c 0#5]
  | .sts16s _ => [phys c 14#5, phys c 0#5]
  | .ext16d a b => [phys c a, phys c b]
  | .movhi a _ => [phys c a]
  | .usr0 a b => [phys c a, phys c b]
  | .ext8s a _ => [phys c a]
  | .ext16s a _ => [phys c a]
  | .st8s a _ => [phys c a, phys c 0#5]
  | .st16s a _ => [phys c a, phys c 0#5]
  | .save _ => [phys (c - 1#5) 30#5, phys (c - 1#5) 14#5]
  | .trap _ => [phys (c - 1#5) 15#5]
  | .not a => [phys c a]
  | .neg a => [phys c a]
  | .abs a => [phys c a]
  | .sext8 a => [phys c a]
  | .sext16 a => [phys c a]
  | .rlc a => [phys c a]
  | .rrc a => [phys c a]
  | .swap a => [phys c a]
  | .usr1 a => [phys c a, phys c 0#5]
  | .usr2 a => [phys c a, phys c 0#5]
  | .usr3 a => [phys c a, phys c 0#5]
  | .usr4 a => [phys c a, phys c 0#5]
  | .restore => []
  | .tret a => [phys c a]
  | .st8d a => [phys c a, phys c 0#5]
  | .st16d a => [phys c a, phys c 0#5]
  | .fill8 a => [phys c a, phys c 0#5]
  | .fill16 a => [phys c a, phys c 0#5]
  | .mstep a => [phys c a, phys c 0#5]
  | .mul a => [phys c a, phys c 0#5]
  | .skprz a => [phys c a]
  | .skps _ => []
  | .wrctl a => [phys c a]
  | .rdctl a => [phys c a]
  | .skprnz a => [phys c a]
  | .jmp a => [phys c a]
  | .call a => [phys c a, phys c 15#5]
  | .br _ => []
  | .bsr _ => [phys c 15#5]
  | .pfxio _ => []
  | .pfx _ => []
  | .stp a p _ => [phys c a, phys c (pointerReg p)]
  | .ldp a p _ => [phys c a, phys c (pointerReg p)]
  | .sts a _ => [phys c a, phys c 14#5]
  | .lds a _ => [phys c a, phys c 14#5]

/-- The physical registers an instruction may write: its destination in the current window; %r0 for the fills and
multiplies (R35); %o7 for BSR and CALL; %o7 of the new window for TRAP; %sp, and on underflow %o7, of the new window for
SAVE; on overflow %o7 for RESTORE (R36). -/
def destinations (i : Instr) (c : BitVec 5) : List Nat :=
  match i with
  | .add a _ => [phys c a]
  | .addi a _ => [phys c a]
  | .sub a _ => [phys c a]
  | .subi a _ => [phys c a]
  | .cmp _ _ => []
  | .cmpi _ _ => []
  | .lsl a _ => [phys c a]
  | .lsli a _ => [phys c a]
  | .lsr a _ => [phys c a]
  | .lsri a _ => [phys c a]
  | .asr a _ => [phys c a]
  | .asri a _ => [phys c a]
  | .mov a _ => [phys c a]
  | .movi a _ => [phys c a]
  | .and a _ => [phys c a]
  | .andn a _ => [phys c a]
  | .or a _ => [phys c a]
  | .xor a _ => [phys c a]
  | .bgen a _ => [phys c a]
  | .ext8d a _ => [phys c a]
  | .skp0 _ _ => []
  | .skp1 _ _ => []
  | .ld a _ => [phys c a]
  | .st _ _ => []
  | .sts8s _ => []
  | .sts16s _ => []
  | .ext16d a _ => [phys c a]
  | .movhi a _ => [phys c a]
  | .usr0 a _ => [phys c a]
  | .ext8s a _ => [phys c a]
  | .ext16s a _ => [phys c a]
  | .st8s _ _ => []
  | .st16s _ _ => []
  | .save _ => [phys (c - 1#5) 14#5, phys (c - 1#5) 15#5]
  | .trap _ => [phys (c - 1#5) 15#5]
  | .not a => [phys c a]
  | .neg a => [phys c a]
  | .abs a => [phys c a]
  | .sext8 a => [phys c a]
  | .sext16 a => [phys c a]
  | .rlc a => [phys c a]
  | .rrc a => [phys c a]
  | .swap a => [phys c a]
  | .usr1 a => [phys c a]
  | .usr2 a => [phys c a]
  | .usr3 a => [phys c a]
  | .usr4 a => [phys c a]
  | .restore => [phys c 15#5]
  | .tret _ => []
  | .st8d _ => []
  | .st16d _ => []
  | .fill8 _ => [0]
  | .fill16 _ => [0]
  | .mstep _ => [0]
  | .mul _ => [0]
  | .skprz _ => []
  | .skps _ => []
  | .wrctl _ => []
  | .rdctl a => [phys c a]
  | .skprnz _ => []
  | .jmp _ => []
  | .call _ => [phys c 15#5]
  | .br _ => []
  | .bsr _ => [phys c 15#5]
  | .pfxio _ => []
  | .pfx _ => []
  | .stp _ _ _ => []
  | .ldp a _ _ => [phys c a]
  | .sts _ _ => []
  | .lds a _ => [phys c a]

end Sys2Proof.Machine
end

