-- ==== Sys2Proof/Certificates/Slice0/Obligations.lean ====
section
/-! DEFINITION. The statements for the provers. The words they use (`Holds`, `advanced`, `inHandler`, `StoresAt`, …) are
Safety.lean's; a result is the whole next state, written as an update of the old one, so that every field not named in
it is unchanged. `x[r]` is read through the window map (log entry 4). -/

open Sys2Proof Sys2Proof.Machine

/-- Decoding the encoding of any well-formed instruction gives the instruction back, every operand at every value. For
every instruction i that is well-formed, decode (encode i) = i. No operand bit of any of the 70 encodings is dropped
or moved. -/
def Obligations.DecodeEncode : Prop :=
  ∀ i : Instr, i.wellFormed = true → decode (encode i) = .ok i

/-- A word that decodes is the encoding of the instruction it decodes to, and that instruction is well-formed. For
every 16-bit word w and instruction i: if decode w = i then i is well-formed and encode i = w. So no two words decode
to one instruction and no bit of an accepted word is ignored. That a bit an instruction page draws as 0 must be 0 is
the spec's decision D4 (log entry 18). -/
def Obligations.EncodeDecode : Prop :=
  ∀ (w : Half) (i : Instr), decode w = .ok i → i.wellFormed = true ∧ encode i = w

/-- The decoder rejects the words that rule R131 lists as no instruction, for every value of their free bits. Each row
of the list of words that are no instruction, with every value of the bits the row leaves free, is rejected by decode,
under a name: a bit drawn as 0 that is 1, an unused opcode, an undefined condition. The manual is silent on these
words: that they are rejected is the choice of the spec's decisions D3 and D4 (log entry 18) and D21 (log entry 21),
and the names of the reasons are the model's. -/
def Obligations.ReservedWordsRejected : Prop :=
  (∀ imm : BitVec 9, decode (0b011001#6 ++ imm ++ 1#1) = .error .fixedBitSet) ∧
  (∀ (imm : BitVec 1) (a : RegNum), decode (0b011101001#9 ++ imm ++ 1#1 ++ a) = .error .fixedBitSet) ∧
  (∀ (imm : BitVec 1) (a : RegNum), decode (0b011101101#9 ++ imm ++ 1#1 ++ a) = .error .fixedBitSet) ∧
  (∀ (op : BitVec 3) (x : BitVec 7), op ∈ [0b010#3, 0b011#3, 0b110#3, 0b111#3] →
    decode (0b011101#6 ++ op ++ x) = .error .unusedOpcode) ∧
  (∀ (bits : BitVec 2) (imm : BitVec 6), bits ≠ 0#2 → decode (0b01111001#8 ++ bits ++ imm) = .error .fixedBitSet) ∧
  (∀ (op : BitVec 2) (x : BitVec 8), op ∈ [0b10#2, 0b11#2] →
    decode (0b011110#6 ++ op ++ x) = .error .unusedOpcode) ∧
  (∀ (op a : BitVec 5), op ∈ [0b00111#5, 0b01111#5, 0b11011#5, 0b11100#5, 0b11101#5] →
    decode (0b011111#6 ++ op ++ a) = .error .unusedOpcode) ∧
  (∀ a : RegNum, a ≠ 0#5 → decode (0b01111101101#11 ++ a) = .error .fixedBitSet) ∧
  (∀ x : BitVec 4, decode (0b011111101111#12 ++ x) = .error .fixedBitSet) ∧
  decode 0x7EEE#16 = .error .undefinedCondition ∧ decode 0x7EEF#16 = .error .undefinedCondition

/-- Words written out from the encodings decode to the instructions they stand for, one of each format. One word of
each instruction format, with the operands its bit row gives it, decodes to the instruction: examples of the
instruction pages. -/
def Obligations.SampleWordsDecode : Prop :=
  decode 0x0013#16 = .ok (.add 19#5 0#5) ∧
  decode 0x04D5#16 = .ok (.addi 21#5 6#5) ∧
  decode 0x5B60#16 = .ok (.ld 0#5 27#5) ∧
  decode 0xB86B#16 = .ok (.ldp 11#5 2#2 3#5) ∧
  decode 0xC23D#16 = .ok (.sts 29#5 17#8) ∧
  decode 0x600D#16 = .ok (.sts8s 13#10) ∧
  decode 0x640E#16 = .ok (.sts16s 7#9) ∧
  decode 0x7466#16 = .ok (.ext8s 6#5 3#2) ∧
  decode 0x74D3#16 = .ok (.ext16s 19#5 1#1) ∧
  decode 0x7817#16 = .ok (.save 23#8) ∧
  decode 0x7902#16 = .ok (.trap 2#6) ∧
  decode 0x7C0C#16 = .ok (.not 12#5) ∧
  decode 0x7DA0#16 = .ok .restore ∧
  decode 0x7EE3#16 = .ok (.skps 3#4) ∧
  decode 0x83FF#16 = .ok (.br 0x3FF#11) ∧
  decode 0x981F#16 = .ok (.pfx 31#11)

/-- A step that accepts no interrupt runs the instruction the fetched word decodes to. For every state s: sample the
inputs (t), let no debug request stand and let the interrupt conditions not all hold; if the fetch at pc gives the
word w (and the state u, which differs from t at most in the instruction cache and the count of free values), if w is
the NOP word where a NOP is due, and if w decodes to i, then i is well-formed and step s is exec of i at u with nopdue
cleared. That an unmasked request waits while a branch is pending is the spec's decision D5 (log entry 16), and that
it waits while a NOP is due its decision D22 (log entry 17). -/
def Obligations.StepRunsDecodedInstruction : Prop :=
  ∀ (s t u : State) (w : Half) (i : Instr), t = s.sampleInputs →
    ¬ (t.irq = true ∧ t.irqNumber = 0#6) →
    ¬ (t.irq = true ∧ t.status.ie = true ∧ t.irqNumber.toNat < t.status.ipri.toNat ∧
      t.pfx = false ∧ t.delay = none ∧ t.nopdue = false) →
    t.fetch t.pc = .ok (w, u) → (t.nopdue = true → w = 0x3000#16) → decode w = .ok i →
    i.wellFormed = true ∧ u = { t with icache := u.icache, freeCtr := u.freeCtr } ∧
      step s = exec i { u with nopdue := false }

/-- A step whose inputs request an unmasked interrupt enters its handler before the instruction at pc executes. For
every state s with the inputs sampled (t): if irq is 1 with a number n, not 0 and below IPRI, IE is 1, the last
instruction was no prefix, no branch and no WRCTL to STATUS is pending, %o7 of the window below exists and the vector
word can be read, then step s is the handler state of exception n with return address pc: STATUS saved in ISTATUS, the
window decremented, IE 0, IPRI n, pc half-word address in %o7, pc twice the vector. The conditions on delay and nopdue
are the spec's decisions D5 and D22 (log entries 16 and 17), that the vector is read past the data cache D18 (log
entry 28), that CWP wraps D14 (log entry 12); a vector in a peripheral is a free value (log entry 7). Where %o7 or the
vector is missing, StepStops says what happens. -/
def Obligations.StepTakesInterrupt : Prop :=
  ∀ (s t : State) (v : Word) (f : Nat), t = s.sampleInputs →
    t.irq = true → t.irqNumber ≠ 0#6 → t.status.ie = true → t.irqNumber.toNat < t.status.ipri.toNat →
    t.pfx = false → t.delay = none → t.nopdue = false →
    phys (t.status.cwp - 1#5) 15#5 < t.regs.length →
    BusWord t (t.cfg.vecBase + t.irqNumber.setWidth 32 * 4#32) v f →
    step s = .next (t.inHandler t.status (t.status.cwp - 1#5) t.irqNumber t.pc v f)

/-- A step stops by name on a debug request, a word that is no instruction, a missing NOP, and an interrupt entry it
cannot make. For every state with its inputs sampled: irq = 1 with number 0 is refused; where no interrupt is
accepted, a fetch that faults gives its fault, a word other than 0x3000 where a NOP is due after a WRCTL to STATUS is
the fault wrctlStatusNoNop, and a word the decoder rejects is the fault reservedOpcode. Where an interrupt is
accepted, %o7 of the window below beyond the register file is the fault registerFileRange, and with that register in
the file a vector word that no region of the memory map holds is the fault unmapped. These are the spec's decisions
D3, D4, D15, D19, D21, D22, D28 (log entries 13, 17, 18, 19, 21, 31); that %o7 is looked at before the vector is the
model's order (log entry 42). -/
def Obligations.StepStops : Prop :=
  ∀ (s t : State), t = s.sampleInputs →
    ((t.irq = true ∧ t.irqNumber = 0#6) → step s = .refused .debugException) ∧
    (¬ (t.irq = true ∧ t.irqNumber = 0#6) →
      ¬ (t.irq = true ∧ t.status.ie = true ∧ t.irqNumber.toNat < t.status.ipri.toNat ∧
        t.pfx = false ∧ t.delay = none ∧ t.nopdue = false) →
      (∀ e, t.fetch t.pc = .error e → step s = .fault e) ∧
      (∀ w u, t.fetch t.pc = .ok (w, u) → t.nopdue = true → w ≠ 0x3000#16 → step s = .fault .wrctlStatusNoNop) ∧
      (∀ w u e, t.fetch t.pc = .ok (w, u) → t.nopdue = false → decode w = .error e →
        step s = .fault .reservedOpcode)) ∧
    (t.irq = true → t.irqNumber ≠ 0#6 → t.status.ie = true → t.irqNumber.toNat < t.status.ipri.toNat →
      t.pfx = false → t.delay = none → t.nopdue = false →
      (t.regs.length ≤ phys (t.status.cwp - 1#5) 15#5 → step s = .fault .registerFileRange) ∧
      (phys (t.status.cwp - 1#5) 15#5 < t.regs.length →
        Unmapped t (t.cfg.vecBase + t.irqNumber.setWidth 32 * 4#32) 4 → step s = .fault .unmapped))

/-- Every step keeps the machine sound: canonical memory and caches, an even pc, K only after a prefix, and more. For
every state s with Sound s, if step s answers next t then Sound t. Sound says: the parameters are legal; memory and
both caches are in canonical form and inside their bounds; the register file keeps its size; pc and a pending branch
target are even; K is nonzero only after a prefix and PFXIO is a prefix; at most one of prefix, pending branch and due
NOP stands; DC and IC are 1 only where the cache exists. It is stated of every state, not of runs from reset. -/
def Obligations.InvariantStep : Prop :=
  ∀ s t : State, Sound s → step s = .next t → Sound t

/-- The state after reset is sound, for every legal configuration and for the one State.reset names. For every
configuration c that meets the spec's constraints, Sound holds of State.resetOf c; and it holds of State.reset, whose
configuration is log entry 1's. -/
def Obligations.InvariantReset : Prop :=
  (∀ c : Config, c.valid = true → Sound (State.resetOf c)) ∧ Sound State.reset

/-- After reset STATUS, ISTATUS and WVALID hold the values the manual states, and the first instruction is at
RESET_ADDR. For every configuration: DC = IC = IE = 0, IPRI = 63, CWP = NREGS/16 - 2 (6, 14, 30), ISTATUS all zero,
HI_LIMIT = NREGS/16 - 2, LO_LIMIT = 1 or 2 with the OCI module, pc = RESET_ADDR, K = 0 and no prefix, branch or NOP
pending, every cache line unknown. The values of K and the hidden bits are the spec's decision D13, that of pc its
decision D1. -/
def Obligations.ResetValues : Prop :=
  ∀ c : Config,
    let s := State.resetOf c
    s.status.dc = false ∧ s.status.ic = false ∧ s.status.ie = false ∧ s.status.ipri = 63#6 ∧
    s.status.cwp = (match c.regFile with | .regs128 => 6#5 | .regs256 => 14#5 | .regs512 => 30#5) ∧
    s.istatus.toWord = 0#32 ∧
    s.wvalid.hiLimit = s.status.cwp ∧ s.wvalid.loLimit = (if c.hasOci then 2#5 else 1#5) ∧
    s.pc = c.resetAddr ∧ s.k = 0#11 ∧ s.pfx = false ∧ s.iobyp = false ∧ s.delay = none ∧ s.nopdue = false ∧
    (∀ a, s.dline a = .unknown) ∧ (∀ a, s.iline a = .unknown)

/-- Every instruction but PFX and PFXIO leaves K = 0 and no prefix state, whatever else it does. For every instruction
i that is neither PFX nor PFXIO and every state s, if exec i s answers next t, then K = 0, pfx = false and iobyp =
false in t (taken skips, branches, traps and window exceptions included). -/
def Obligations.PrefixStateClears : Prop :=
  ∀ (i : Instr) (s t : State), isPrefix i = false → exec i s = .next t →
    t.k = 0#11 ∧ t.pfx = false ∧ t.iobyp = false

/-- No instruction but the nine stores changes any byte of memory. For every instruction i that is none of ST, STP,
STS, ST8S, ST8D, ST16S, ST16D, STS8S, STS16S and every state s, if exec i s answers next t then every address reads in
t what it read in s. -/
def Obligations.OnlyStoresChangeMemory : Prop :=
  ∀ (i : Instr) (s t : State), isStore i = false → exec i s = .next t → SameMemory s t

/-- An instruction changes no general register but its destinations; the file keeps its length. For every instruction
i and state s, if exec i s answers next t, then every physical register that is not a destination of i holds in t what
it held in s, and the file has the same number of registers. The destinations (Safety.destinations): x[A] where A is
written; %r0 for FILL8, FILL16, MUL, MSTEP; %o7 for BSR, CALL; %o7 of the new window for TRAP; %sp and (underflow) %o7
of the new window for SAVE; (overflow) %o7 for RESTORE; none otherwise. -/
def Obligations.RegisterFrame : Prop :=
  ∀ (i : Instr) (s t : State), exec i s = .next t →
    t.regs.length = s.regs.length ∧
    ∀ p, p ∉ destinations i s.status.cwp → t.regs[p]? = s.regs[p]?

/-- The flags change only as the flag table says: all four, N and Z alone, C alone, or none. For every instruction i
and state s with exec i s = next t: AND, ANDN, OR, XOR leave V and C; RLC and RRC leave N, V, Z; WRCTL with K other
than 0 leaves all four; every instruction other than ADD, ADDI, SUB, SUBI, CMP, CMPI, WRCTL, TRET and those six leaves
all four. -/
def Obligations.FlagFrame : Prop :=
  ∀ (i : Instr) (s t : State), exec i s = .next t →
    (writesLogicFlags i = true → t.status.v = s.status.v ∧ t.status.c = s.status.c) ∧
    (writesCarryOnly i = true → t.status.n = s.status.n ∧ t.status.v = s.status.v ∧ t.status.z = s.status.z) ∧
    (((∃ a, i = .wrctl a) ∧ s.k ≠ 0#11) ∨
        (writesAllFlags i = false ∧ writesLogicFlags i = false ∧ writesCarryOnly i = false) →
      t.status.n = s.status.n ∧ t.status.v = s.status.v ∧ t.status.z = s.status.z ∧ t.status.c = s.status.c)

/-- DC and IC change only by WRCTL and TRET; IE, IPRI and CWP only by those, SAVE, RESTORE and TRAP. For every
instruction i and state s with exec i s = next t: unless i is WRCTL or TRET, DC and IC are unchanged; unless i is
WRCTL, TRET, SAVE, RESTORE or TRAP, IE, IPRI and CWP are unchanged too. -/
def Obligations.StatusFrame : Prop :=
  ∀ (i : Instr) (s t : State), exec i s = .next t →
    ((∀ a, i ≠ .wrctl a) → (∀ a, i ≠ .tret a) →
      t.status.dc = s.status.dc ∧ t.status.ic = s.status.ic ∧
      ((∀ n, i ≠ .save n) → i ≠ .restore → (∀ n, i ≠ .trap n) →
        t.status.ie = s.status.ie ∧ t.status.ipri = s.status.ipri ∧ t.status.cwp = s.status.cwp))

/-- ISTATUS, WVALID and nopdue change only by the instructions named; the inputs only by one sample a step; the
parameters never. For every instruction i and state s with exec i s = next t: unless i is SAVE, RESTORE, TRAP or
WRCTL, ISTATUS is unchanged; unless i is WRCTL with K = 2, WVALID is unchanged; the parameters, the interrupt inputs
and the samples to come are unchanged; nopdue is set by WRCTL with K = 0, cleared by TRAP, cleared by SAVE and RESTORE
exactly where they enter exception 1 or 2, and otherwise unchanged. The sampling at the start of a step takes the
first sample of irqTrace as the new level of irq and irq_number and leaves the rest to come; with none to come the
level is kept; nothing else changes. So a step that answers next t leaves the inputs at that sample (or at their
level), irqTrace one shorter (or empty) and the parameters as they were. That nopdue exists is the spec's decision D22
(log entry 17); the trace of samples, one a step, is the model's form of its decision D17 (log entry 8); the masking
of exception 2 is its decision D7 (log entry 15). -/
def Obligations.SavedRegistersFrame : Prop :=
  (∀ (i : Instr) (s t : State), exec i s = .next t →
    ((∀ n, i ≠ .save n) → i ≠ .restore → (∀ n, i ≠ .trap n) → (∀ a, i ≠ .wrctl a) → t.istatus = s.istatus) ∧
    (((∀ a, i ≠ .wrctl a) ∨ s.k ≠ 2#11) → t.wvalid = s.wvalid) ∧
    t.cfg = s.cfg ∧ t.irq = s.irq ∧ t.irqNumber = s.irqNumber ∧ t.irqTrace = s.irqTrace ∧
    ((∃ a, i = .wrctl a) → s.k = 0#11 → t.nopdue = true) ∧
    ((∃ n, i = .trap n) → t.nopdue = false) ∧
    ((∃ n, i = .save n) → t.nopdue =
      if s.status.cwp = s.wvalid.loLimit ∧ s.status.ie = true ∧ 1 < s.status.ipri.toNat then false else s.nopdue) ∧
    (i = .restore → t.nopdue =
      if s.status.cwp = s.wvalid.hiLimit ∧ s.status.ie = true ∧ 2 < s.status.ipri.toNat then false else s.nopdue) ∧
    ((∀ n, i ≠ .save n) → i ≠ .restore → (∀ n, i ≠ .trap n) → ((∀ a, i ≠ .wrctl a) ∨ s.k ≠ 0#11) →
      t.nopdue = s.nopdue)) ∧
  (∀ s : State, s.irqTrace = [] → s.sampleInputs = s) ∧
  (∀ (s : State) (x : IrqSample) (rest : List IrqSample), s.irqTrace = x :: rest →
    s.sampleInputs = { s with irq := x.irq, irqNumber := x.number, irqTrace := rest }) ∧
  (∀ s t : State, step s = .next t → t.cfg = s.cfg ∧ t.irqTrace = s.irqTrace.tail ∧
    (s.irqTrace = [] → t.irq = s.irq ∧ t.irqNumber = s.irqNumber) ∧
    (∀ x rest, s.irqTrace = x :: rest → t.irq = x.irq ∧ t.irqNumber = x.number))

/-- The data cache changes only by loads, stores and WRCTL, the instruction cache only by skips and WRCTL. For every
instruction i and state s with exec i s = next t: the data cache is unchanged unless i is a load, a store or a WRCTL
with K = 7; the instruction cache is unchanged unless i is a skip (its look-ahead fetch) or a WRCTL with K = 5. That
TRAP and a taken SAVE or RESTORE read their vector past the data cache is the spec's decision D18 (log entry 28); that
a skip's look-ahead is a fetch that may fill a line is the model's reading (log entries 40 and 41); that a WRCTL
without its cache does nothing is decision D8 (log entry 9). -/
def Obligations.CacheFrame : Prop :=
  ∀ (i : Instr) (s t : State), exec i s = .next t →
    (isLoad i = false → isStore i = false → ((∀ a, i ≠ .wrctl a) ∨ s.k ≠ 7#11) → t.dcache = s.dcache) ∧
    (isSkip i = false → ((∀ a, i ≠ .wrctl a) ∨ s.k ≠ 5#11) → t.icache = s.icache)

/-- Each of the thirteen forbidden instructions stops in a delay slot; a branch never nests. For every state with a
branch pending, BR, BSR, JMP, CALL, PFX, PFXIO, SKP0, SKP1, SKPRZ, SKPRNZ, SKPS, TRET and TRAP end in the fault
delaySlot (the spec's decision D20, log entry 20). -/
def Obligations.DelaySlotStops : Prop :=
  ∀ (i : Instr) (s : State) (d : Word), slotForbidden i = true → s.delay = some d → exec i s = .fault .delaySlot

/-- A prefix after a prefix and PFXIO before anything but LD and LDP stop by name. For every state with no branch
pending: PFX and PFXIO with pfx set end in the fault pfxPfx; with iobyp set every instruction that is no prefix and
neither LD nor LDP ends in the fault pfxioTarget (the same in a delay slot, for an instruction that may stand there).
The manual calls both results undefined: the faults are the choice of the spec's U1 and U2 (log entries 22 and 23),
and a prefix after PFXIO, to which both apply, is reported as pfxPfx by log entries 22 and 42 (the spec's vector V43.4
allows either). -/
def Obligations.PrefixStops : Prop :=
  ∀ (i : Instr) (s : State),
    (isPrefix i = true → s.delay = none → s.pfx = true → exec i s = .fault .pfxPfx) ∧
    (isPrefix i = false → mayFollowPfxio i = false → s.iobyp = true → (s.delay = none ∨ slotForbidden i = false) →
      exec i s = .fault .pfxioTarget)

/-- TRAP 0, SKPS without a condition and the undefined control registers stop by name. For every state with no PFXIO
before and no branch pending: TRAP 0 ends in the fault trapZero and SKPS with code 0xE or 0xF in reservedOpcode. RDCTL
with K = 3, 4 or 10 and above, and WRCTL of an existing register with K = 3, 4, 6 or 10 and above, end in the fault
reservedCtl, in a delay slot too. Every one of these stops is a decision of the spec: D19 for TRAP 0 (log entry 19),
D21 for SKPS (log entry 21), D24 for the control registers (log entry 26). -/
def Obligations.UndefinedInstructionStops : Prop :=
  ∀ s : State, s.iobyp = false →
    (s.delay = none → exec (.trap 0#6) s = .fault .trapZero) ∧
    (s.delay = none → ∀ cc : BitVec 4, (cc = 0xE#4 ∨ cc = 0xF#4) → exec (.skps cc) s = .fault .reservedOpcode) ∧
    (∀ a, s.k.toNat = 3 ∨ s.k.toNat = 4 ∨ 10 ≤ s.k.toNat → exec (.rdctl a) s = .fault .reservedCtl) ∧
    (∀ a v, Holds s a v → s.k.toNat = 3 ∨ s.k.toNat = 4 ∨ s.k.toNat = 6 ∨ 10 ≤ s.k.toNat →
      exec (.wrctl a) s = .fault .reservedCtl)

/-- An instruction any of whose registers lies beyond the register file never completes and, where that is its one
fault, says so. For every instruction i and state in which one of the registers i needs lies at or beyond NREGS, exec
i s answers no next state. Those registers (Safety.registersNeeded) are x[A]; x[B] where the form reads it (not in
AND, ANDN, OR, XOR after a prefix); %r0 where it is implicit; register 16 + P of LDP and STP; %sp of LDS, STS, STS8S
and STS16S; %o7 of BSR and CALL; %fp and %sp of the new window for SAVE (its %o7 lies below its %fp); %o7 of the new
window for TRAP. With no PFXIO before and no branch pending where none may be, the fault is registerFileRange for
every i but the loads, RDCTL and TRAP 0. For LD, LDP and LDS it is that where the base is missing, or x[A] is and the
word can be read; for RDCTL where K names a defined register; for RESTORE where it enters exception 2 and %o7 of the
window left is missing. The fault is the spec's decision D15 (log entry 13); that a load reads before it looks at x[A]
is the model's order (log entry 42). -/
def Obligations.MissingRegisterStops : Prop :=
  (∀ (i : Instr) (s : State) (q : Nat), q ∈ registersNeeded i s.pfx s.status.cwp → s.regs.length ≤ q →
    (∀ t, exec i s ≠ .next t) ∧
    (s.iobyp = false → (s.delay = none ∨ slotForbidden i = false) → isLoad i = false → (∀ a, i ≠ .rdctl a) →
      i ≠ .trap 0#6 → exec i s = .fault .registerFileRange)) ∧
  (∀ (s : State) (a b : RegNum) (p : BitVec 2) (imm : BitVec 5) (imm8 : BitVec 8),
    (s.regs.length ≤ phys s.status.cwp b → exec (.ld a b) s = .fault .registerFileRange) ∧
    (s.regs.length ≤ phys s.status.cwp (pointerReg p) → exec (.ldp a p imm) s = .fault .registerFileRange) ∧
    (s.iobyp = false → s.regs.length ≤ phys s.status.cwp 14#5 → exec (.lds a imm8) s = .fault .registerFileRange)) ∧
  (∀ (s : State) (a b : RegNum) (p : BitVec 2) (imm : BitVec 5) (imm8 : BitVec 8) (base v : Word) (f : Nat),
    s.regs.length ≤ phys s.status.cwp a →
    (Holds s b base → LoadsWord s (align32 (base + prefixOffset s.k)) s.iobyp v f →
      exec (.ld a b) s = .fault .registerFileRange) ∧
    (Holds s (pointerReg p) base → LoadsWord s (align32 (base + pointerOffset s.k imm)) s.iobyp v f →
      exec (.ldp a p imm) s = .fault .registerFileRange) ∧
    (s.iobyp = false → Holds s 14#5 base → LoadsWord s (align32 (base + stackOffset imm8)) false v f →
      exec (.lds a imm8) s = .fault .registerFileRange) ∧
    (s.iobyp = false → s.k.toNat ≠ 3 → s.k.toNat ≠ 4 → s.k.toNat < 10 →
      exec (.rdctl a) s = .fault .registerFileRange)) ∧
  (∀ s : State, s.iobyp = false → s.status.cwp = s.wvalid.hiLimit → s.status.ie = true → 2 < s.status.ipri.toNat →
    s.regs.length ≤ phys s.status.cwp 15#5 → exec .restore s = .fault .registerFileRange)

/-- The In registers of a window are the Out registers of the window above; the Globals never move; no other two
registers of any windows coincide. For every window c below 31 and i below 8: register 24 + i at c and register 8 + i
at c + 1 are the same physical register; registers 0 to 7 are the same in every window. A Local register (16 to 23) of
window c is no register of another window and no other register of c: it is private to its window. And wherever
register r at window c and register q at window d are the same physical register, one of four holds: r = q is a
Global; c = d and r = q; r is an In register of c and q its Out register in d = c + 1; or the reverse. So the
registers of one window are distinct, and no register from 8 up is ever a Global. The map is the spec's inference (log
entry 4, DEDUCED). -/
def Obligations.WindowOverlap : Prop :=
  (∀ (c : BitVec 5) (i : BitVec 3), c ≠ 31#5 →
      phys c (24#5 + i.setWidth 5) = phys (c + 1#5) (8#5 + i.setWidth 5)) ∧
  (∀ (c d : BitVec 5) (r : RegNum), r.toNat < 8 → phys c r = phys d r) ∧
  (∀ (c d : BitVec 5) (r q : RegNum), 16 ≤ r.toNat → r.toNat < 24 → phys c r = phys d q → c = d ∧ r = q) ∧
  (∀ (c d : BitVec 5) (r q : RegNum), phys c r = phys d q →
    (r = q ∧ r.toNat < 8) ∨ (c = d ∧ r = q) ∨
    (24 ≤ r.toNat ∧ d.toNat = c.toNat + 1 ∧ r.toNat = q.toNat + 16) ∨
    (24 ≤ q.toNat ∧ c.toNat = d.toNat + 1 ∧ q.toNat = r.toNat + 16))

/-- A word or half-word stored little-endian reads back, byte by byte and whole, and nothing else changes. For every
memory m, address a and word v: after the four bytes of v are written at a, the byte at a + i is bits 8i+7..8i of v,
the word at a is v and every other byte is unchanged; the same for the two bytes of a half-word. -/
def Obligations.MemoryReadsBack : Prop :=
  ∀ (m : Memory) (a c : Nat),
    (∀ v : Word, ((m.writeBytes a (wordBytes v)).readWord a = v) ∧
      (∀ i, i < 4 → (m.writeBytes a (wordBytes v)).readByte (a + i) = v.extractLsb' (8 * i) 8) ∧
      (c < a ∨ a + 4 ≤ c → (m.writeBytes a (wordBytes v)).readByte c = m.readByte c)) ∧
    (∀ v : Half, ((m.writeBytes a (halfBytes v)).readHalf a = v) ∧
      (∀ i, i < 2 → (m.writeBytes a (halfBytes v)).readByte (a + i) = v.extractLsb' (8 * i) 8) ∧
      (c < a ∨ a + 2 ≤ c → (m.writeBytes a (halfBytes v)).readByte c = m.readByte c))

/-- Two memories in canonical form that read alike everywhere are the same data. For all memories m and n with
Memory.wf, if every address reads the same in both, then m = n: memory has one representation. -/
def Obligations.MemoryCanonical : Prop :=
  ∀ m n : Memory, m.wf = true → n.wf = true → (∀ a, m.readByte a = n.readByte a) → m = n

/-- STATUS and WVALID pack and unpack without loss; the bits no figure draws read 0 and ignore writes. For every
STATUS value its word, unpacked, is that value; for every word v, packing its fields gives v with bits 31..18 zero
(for WVALID bits 31..10). Those zero bits are the spec's decision D9 (log entry 10). -/
def Obligations.StatusLayout : Prop :=
  (∀ st : Status, Status.ofWord st.toWord = st) ∧
  (∀ v : Word, (Status.ofWord v).toWord = v &&& 0x3FFFF#32) ∧
  (∀ w : Wvalid, Wvalid.ofWord w.toWord = w) ∧
  (∀ v : Word, (Wvalid.ofWord v).toWord = v &&& 0x3FF#32)

/-- Offsets and alignment are the numbers the manual gives: signed word offsets, unsigned stack offsets, downward
alignment. For every K and IMM5: the constant K : IMM5 is 32 K + IMM5; the offset of LD and ST is 4 times the signed
K, in -4096..4092; that of LDP and STP is 4 times the signed 16-bit K : IMM5, in -131072..131068; the stack offset is
4 times the unsigned IMM8; align32 rounds down to a multiple of 4; the base of LDP and STP is register 16 + P; the
branch target is pc + 2 + 2 times the signed IMM11, modulo 2^32. -/
def Obligations.OperandFormulas : Prop :=
  (∀ (k : BitVec 11) (imm : BitVec 5), (immOperand k imm).toNat = 32 * k.toNat + imm.toNat) ∧
  (∀ k : BitVec 11, (prefixOffset k).toInt = 4 * k.toInt ∧ -4096 ≤ (prefixOffset k).toInt ∧
    (prefixOffset k).toInt ≤ 4092) ∧
  (∀ (k : BitVec 11) (imm : BitVec 5), (pointerOffset k imm).toInt = 4 * (imm16 k imm).toInt ∧
    -131072 ≤ (pointerOffset k imm).toInt ∧ (pointerOffset k imm).toInt ≤ 131068) ∧
  (∀ imm : BitVec 8, (stackOffset imm).toNat = 4 * imm.toNat) ∧
  (∀ a : Word, (align32 a).toNat = a.toNat - a.toNat % 4) ∧
  (∀ p : BitVec 2, (pointerReg p).toNat = 16 + p.toNat) ∧
  (∀ (pc : Word) (imm : BitVec 11), branchTarget pc imm = pc + BitVec.ofInt 32 (2 + 2 * imm.toInt))

/-- ST8D and ST16D write at the address the register gives: lane and aligned word together are base plus offset. For
every base and K: the byte lane base[1:0] of the word at align32(base + 4 K) is the byte at base + 4 K exactly; the
half-word lane base[1] of that word is at (base with bit 0 cleared) + 4 K; and the lane of an address is the one the
extracts select, so that a byte of memory is read back by LD and EXT8D at its own address. -/
def Obligations.DynamicStoreAddress : Prop :=
  ∀ (base : Word) (k : BitVec 11),
    byteAddress (align32 (base + prefixOffset k)) (byteLane base) = base + prefixOffset k ∧
    halfAddress (align32 (base + prefixOffset k)) (halfLane base) = (base &&& 0xFFFFFFFE#32) + prefixOffset k ∧
    (∀ m : Memory, byteOf (m.readWord (align32 base).toNat) (byteLane base) = m.readByte base.toNat)

/-- A load reads past a disabled or bypassed data cache, hits, misses and fills, or faults: a line never initialised,
a hole in the map. In a legal configuration with a data cache, the address of the word of a is its tag times
DCACHE_SIZE plus four times its line index, which is below DCACHE_SIZE / 4, so two addresses with equal index and
equal tag lie in one word (R98; the modulus for any size is the spec's decision D8, log entry 47). For every state and
aligned address w: without a data cache, with DC = 0 or on a bypass the word comes from the bus and nothing else
changes; on a hit the cached word comes back and nothing changes; on a miss the word comes from the bus and its line
alone is filled; on a line never initialised the fault dcacheUninitialised (U5, log entry 25); where no region of the
map holds the word, a load past the cache and one that misses end in the fault unmapped (D28, log entry 31), while one
that hits does not look. A peripheral's word is a free value (log entry 7). -/
def Obligations.DataLoadCases : Prop :=
  (∀ (c : Config) (a b : Word), c.valid = true → c.hasDCache = true →
    dindex c a < c.dcacheSize / 4 ∧ (align32 a).toNat = dtag c a * c.dcacheSize + 4 * dindex c a ∧
    (dindex c a = dindex c b → dtag c a = dtag c b → align32 a = align32 b)) ∧
  (∀ (s : State) (w : Word) (bypass : Bool),
    ((s.cfg.hasDCache = false ∨ s.status.dc = false ∨ bypass = true) →
      (∀ v f, BusWord s w v f → s.dataLoad w bypass = .ok (v, { s with freeCtr := f })) ∧
      (Unmapped s w 4 → s.dataLoad w bypass = .error .unmapped)) ∧
    (s.cfg.hasDCache = true → s.status.dc = true → bypass = false →
      (∀ d, s.dline w = .valid (dtag s.cfg w) d → s.dataLoad w bypass = .ok (d, s)) ∧
      (s.dline w = .unknown → s.dataLoad w bypass = .error .dcacheUninitialised) ∧
      ((s.dline w = .invalid ∨ ∃ tag d, s.dline w = .valid tag d ∧ tag ≠ dtag s.cfg w) → Unmapped s w 4 →
        s.dataLoad w bypass = .error .unmapped) ∧
      (∀ v f, (s.dline w = .invalid ∨ ∃ tag d, s.dline w = .valid tag d ∧ tag ≠ dtag s.cfg w) → BusWord s w v f →
        ∃ t, s.dataLoad w bypass = .ok (v, t) ∧ t = { s with freeCtr := f, dcache := t.dcache } ∧
          SetsDataLine s t w (.valid (dtag s.cfg w) v))))

/-- A fetch reads past a disabled instruction cache, hits, misses and fills, or faults: a line never initialised, a
hole in the map. In a legal configuration with an instruction cache, an address less its bit 0 is its tag times
ICACHE_SIZE plus twice its line index, which is below ICACHE_SIZE / 2, so two even addresses with equal index and
equal tag are equal (R105; the modulus for any size is the spec's decision D8, log entry 47; that bit 0 is ignored is
R108). For every state and even address a: without an instruction cache or with IC = 0 the half-word comes from the
bus, low byte first, and nothing else changes; on a hit the cached half-word comes back; on a miss it comes from the
bus and its line alone is filled; on a line never initialised the fault is icacheUninitialised; where no region of the
map holds the half-word, a fetch past the cache and one that misses end in the fault unmapped. The byte order of an
instruction is the spec's decision D23 (log entry 5), the fill its inference (log entry 40), the first fault the
choice of its U5 (log entry 25), the second its decision D28 (log entry 31); a peripheral's half-word is a free value
(log entry 7). -/
def Obligations.FetchCases : Prop :=
  (∀ (c : Config) (a b : Word), c.valid = true → c.hasICache = true →
    iindex c a < c.icacheSize / 2 ∧ a.toNat - a.toNat % 2 = itag c a * c.icacheSize + 2 * iindex c a ∧
    (a.getLsbD 0 = false → b.getLsbD 0 = false → iindex c a = iindex c b → itag c a = itag c b → a = b)) ∧
  (∀ (s : State) (a : Word),
    ((s.cfg.hasICache = false ∨ s.status.ic = false) →
      (∀ v f, BusHalf s a v f → s.fetch a = .ok (v, { s with freeCtr := f })) ∧
      (Unmapped s a 2 → s.fetch a = .error .unmapped)) ∧
    (s.cfg.hasICache = true → s.status.ic = true →
      (∀ d, s.iline a = .valid (itag s.cfg a) d → s.fetch a = .ok (d, s)) ∧
      (s.iline a = .unknown → s.fetch a = .error .icacheUninitialised) ∧
      ((s.iline a = .invalid ∨ ∃ tag d, s.iline a = .valid tag d ∧ tag ≠ itag s.cfg a) → Unmapped s a 2 →
        s.fetch a = .error .unmapped) ∧
      (∀ v f, (s.iline a = .invalid ∨ ∃ tag d, s.iline a = .valid tag d ∧ tag ≠ itag s.cfg a) → BusHalf s a v f →
        ∃ t, s.fetch a = .ok (v, t) ∧ t = { s with freeCtr := f, icache := t.icache } ∧
          SetsFetchLine s t a (.valid (itag s.cfg a) v))))

/-- ADD and ADDI: the sum, the four flags, and nothing else; V is set exactly when the signed sum does not fit. For
every state with no PFXIO before and x[A] = x: ADD with x[B] = y writes x + y modulo 2^32 to x[A]; ADDI does so with y
the zero-extended K : IMM5. N is bit 31 of the result, Z says it is 0, C that the unlimited sum reaches 2^32, V that
the operands agree in sign and the result does not, which is when the signed sum differs from the signed result.
Execution goes on in sequence; every other register, field and byte of memory is unchanged. -/
def Obligations.AdditionResult : Prop :=
  ∀ (s : State) (a b : RegNum) (imm : BitVec 5) (x y z : Word), s.iobyp = false → Holds s a x →
    let sum := fun v : Word => State.advanced { s.withReg a (x + v) with
      status := { s.status with
        n := (x + v).getLsbD 31
        z := decide (x + v = 0#32)
        c := decide (2 ^ 32 ≤ x.toNat + v.toNat)
        v := (x.getLsbD 31 == v.getLsbD 31) && ((x + v).getLsbD 31 != x.getLsbD 31) } }
    decode (0b000000#6 ++ b ++ a) = .ok (.add a b) ∧
    decode (0b000001#6 ++ imm ++ a) = .ok (.addi a imm) ∧
    (Holds s b y → exec (.add a b) s = .next (sum y)) ∧
    (z = (s.k ++ imm).setWidth 32 → exec (.addi a imm) s = .next (sum z)) ∧
    ((sum y).status.v = true ↔ (x + y).toInt ≠ x.toInt + y.toInt)

/-- SUB and SUBI: the difference, the four flags, and nothing else; V is set exactly when the signed difference does
not fit. For every state with no PFXIO before and x[A] = x: SUB with x[B] = y writes x - y modulo 2^32 to x[A]; SUBI
does so with y the zero-extended K : IMM5. N is bit 31, Z says the result is 0, C is a borrow (x < y unsigned), V says
that the operands differ in sign and the result differs from x in sign, which is when the signed difference differs
from the signed result. Everything else is unchanged. -/
def Obligations.SubtractionResult : Prop :=
  ∀ (s : State) (a b : RegNum) (imm : BitVec 5) (x y z : Word), s.iobyp = false → Holds s a x →
    let difference := fun v : Word => State.advanced { s.withReg a (x - v) with
      status := { s.status with
        n := (x - v).getLsbD 31
        z := decide (x - v = 0#32)
        c := decide (x.toNat < v.toNat)
        v := (x.getLsbD 31 != v.getLsbD 31) && ((x - v).getLsbD 31 != x.getLsbD 31) } }
    decode (0b000010#6 ++ b ++ a) = .ok (.sub a b) ∧
    decode (0b000011#6 ++ imm ++ a) = .ok (.subi a imm) ∧
    (Holds s b y → exec (.sub a b) s = .next (difference y)) ∧
    (z = (s.k ++ imm).setWidth 32 → exec (.subi a imm) s = .next (difference z)) ∧
    ((difference y).status.v = true ↔ (x - y).toInt ≠ x.toInt - y.toInt)

/-- CMP and CMPI write only the flags: Z means equal, C lower unsigned, N xor V lower signed. For every state with no
PFXIO before and x[A] = x: CMP with x[B] = y, and CMPI with y the zero-extended K : IMM5, write N, Z, C, V by the
subtraction x - y and nothing else; afterwards Z = 1 iff x = y, C = 1 iff x < y unsigned, and N xor V = 1 iff x < y
signed. -/
def Obligations.CompareResult : Prop :=
  ∀ (s : State) (a b : RegNum) (imm : BitVec 5) (x y z : Word), s.iobyp = false → Holds s a x →
    let compared := fun v : Word => State.advanced { s with
      status := { s.status with
        n := (x - v).getLsbD 31
        z := decide (x - v = 0#32)
        c := decide (x.toNat < v.toNat)
        v := (x.getLsbD 31 != v.getLsbD 31) && ((x - v).getLsbD 31 != x.getLsbD 31) } }
    decode (0b000100#6 ++ b ++ a) = .ok (.cmp a b) ∧
    decode (0b000101#6 ++ imm ++ a) = .ok (.cmpi a imm) ∧
    (Holds s b y → exec (.cmp a b) s = .next (compared y)) ∧
    (z = (s.k ++ imm).setWidth 32 → exec (.cmpi a imm) s = .next (compared z)) ∧
    ((compared y).status.z = true ↔ x = y) ∧
    ((compared y).status.c = true ↔ x.toNat < y.toNat) ∧
    (((compared y).status.n != (compared y).status.v) = true ↔ x.toInt < y.toInt)

/-- After CMP a, b the conditions of SKPS are the comparisons of a and b, signed and unsigned. For every state in
which CMP of x[A] = x and x[B] = y completes: of the fourteen conditions of SKPS evaluated on the flags it leaves,
cc_c is x < y, cc_nc x >= y, cc_z x = y, cc_nz x /= y, cc_la x <= y, cc_hi x > y unsigned, and cc_ge x >= y, cc_lt x <
y, cc_le x <= y, cc_gt x > y signed. This is the spec's inference. -/
def Obligations.SkipConditionsAfterCompare : Prop :=
  ∀ (s t : State) (a b : RegNum) (x y : Word), Holds s a x → Holds s b y → exec (.cmp a b) s = .next t →
    t.status.condition 0x0#4 = some (decide (x.toNat < y.toNat)) ∧
    t.status.condition 0x1#4 = some (decide (y.toNat ≤ x.toNat)) ∧
    t.status.condition 0x2#4 = some (decide (x = y)) ∧
    t.status.condition 0x3#4 = some (decide (x ≠ y)) ∧
    t.status.condition 0x6#4 = some (decide (y.toInt ≤ x.toInt)) ∧
    t.status.condition 0x7#4 = some (decide (x.toInt < y.toInt)) ∧
    t.status.condition 0x8#4 = some (decide (x.toInt ≤ y.toInt)) ∧
    t.status.condition 0x9#4 = some (decide (y.toInt < x.toInt)) ∧
    t.status.condition 0xC#4 = some (decide (x.toNat ≤ y.toNat)) ∧
    t.status.condition 0xD#4 = some (decide (y.toNat < x.toNat))

/-- AND, ANDN, OR, XOR: two registers, or after a prefix a register and K : IMM5; N and Z written, V and C kept. For
every state with no PFXIO before, x[A] = x and y the second operand (x[B] when the last instruction was no prefix; the
zero-extended K : IMM5, the same five bits, when it was PFX): the four instructions write x & y, x & ~y, x | y, x ^ y
to x[A], N is bit 31 of the result, Z says it is 0; V, C and everything else are unchanged. -/
def Obligations.LogicResult : Prop :=
  ∀ (s : State) (a b : RegNum) (x y : Word), s.iobyp = false → Holds s a x →
    (s.pfx = false → Holds s b y) → (s.pfx = true → y = (s.k ++ b).setWidth 32) →
    let result := fun r : Word => State.advanced { s.withReg a r with
      status := { s.status with n := r.getLsbD 31, z := decide (r = 0#32) } }
    decode (0b001110#6 ++ b ++ a) = .ok (.and a b) ∧ exec (.and a b) s = .next (result (x &&& y)) ∧
    decode (0b001111#6 ++ b ++ a) = .ok (.andn a b) ∧ exec (.andn a b) s = .next (result (x &&& ~~~y)) ∧
    decode (0b010000#6 ++ b ++ a) = .ok (.or a b) ∧ exec (.or a b) s = .next (result (x ||| y)) ∧
    decode (0b010001#6 ++ b ++ a) = .ok (.xor a b) ∧ exec (.xor a b) s = .next (result (x ^^^ y))

/-- NOT, NEG and ABS: inversion, negation and absolute value of a register, with no flag touched. For every state with
no PFXIO before and x[A] = x: NOT writes ~x, NEG writes 0 - x modulo 2^32, ABS writes 0 - x modulo 2^32 where bit 31
of x is 1 and x otherwise (so the unsigned value of the result is the absolute value of the signed x, 2^31 for the
most negative number). Nothing else changes, no flag either. -/
def Obligations.UnaryResult : Prop :=
  ∀ (s : State) (a : RegNum) (x : Word), s.iobyp = false → Holds s a x →
    decode (0b01111100000#11 ++ a) = .ok (.not a) ∧
    exec (.not a) s = .next (State.advanced (s.withReg a (~~~x))) ∧
    decode (0b01111100001#11 ++ a) = .ok (.neg a) ∧
    exec (.neg a) s = .next (State.advanced (s.withReg a (0#32 - x))) ∧
    decode (0b01111100010#11 ++ a) = .ok (.abs a) ∧
    exec (.abs a) s = .next (State.advanced (s.withReg a (if x.getLsbD 31 then 0#32 - x else x))) ∧
    (if x.getLsbD 31 then 0#32 - x else x).toNat = x.toInt.natAbs

/-- MUL and MSTEP: the unsigned product of the low halves, and one step of a multiply, into %r0. For every state with
no PFXIO before, %r0 = r and x[A] = x: MUL writes to %r0 the product of the two low half-words as unsigned numbers,
never truncated; MSTEP writes (r << 1) + x where bit 31 of the old r is 1 and r << 1 otherwise, modulo 2^32. No flag
and nothing else changes; A = 0 uses the old %r0 twice. That the product is unsigned is read from 90_conflicts.md C5
(log entry 36, DEDUCED). -/
def Obligations.MultiplyResult : Prop :=
  ∀ (s : State) (a : RegNum) (r x : Word), s.iobyp = false → Holds s 0#5 r → Holds s a x →
    decode (0b01111110101#11 ++ a) = .ok (.mul a) ∧
    (∃ p : Word, p.toNat = (r.toNat % 2 ^ 16) * (x.toNat % 2 ^ 16) ∧
      exec (.mul a) s = .next (State.advanced (s.withReg 0#5 p))) ∧
    decode (0b01111110100#11 ++ a) = .ok (.mstep a) ∧
    (∃ p : Word, p.toNat = (2 * r.toNat + (if r.getLsbD 31 then x.toNat else 0)) % 2 ^ 32 ∧
      exec (.mstep a) s = .next (State.advanced (s.withReg 0#5 p)))

/-- LSL, LSR and ASR shift by x[B][4:0]: a product, an unsigned quotient and a floor quotient by a power of two. For
every state with no PFXIO before, x[A] = x and x[B] = y, with n = y mod 32: LSL writes x * 2^n modulo 2^32, LSR the
unsigned x divided by 2^n rounded down, ASR the signed x divided by 2^n rounded toward minus infinity. No flag and
nothing else changes. -/
def Obligations.RegisterShiftResult : Prop :=
  ∀ (s : State) (a b : RegNum) (x y : Word), s.iobyp = false → Holds s a x → Holds s b y →
    decode (0b000110#6 ++ b ++ a) = .ok (.lsl a b) ∧
    exec (.lsl a b) s = .next (State.advanced (s.withReg a (BitVec.ofNat 32 (x.toNat * 2 ^ (y.toNat % 32))))) ∧
    decode (0b001000#6 ++ b ++ a) = .ok (.lsr a b) ∧
    exec (.lsr a b) s = .next (State.advanced (s.withReg a (BitVec.ofNat 32 (x.toNat / 2 ^ (y.toNat % 32))))) ∧
    decode (0b001010#6 ++ b ++ a) = .ok (.asr a b) ∧
    exec (.asr a b) s = .next (State.advanced (s.withReg a (BitVec.ofInt 32 (x.toInt / (2 ^ (y.toNat % 32) : Nat)))))

/-- LSLI, LSRI and ASRI shift by IMM5 alone: K does not widen the amount. For every state with no PFXIO before and
x[A] = x, whatever K is, with n = IMM5: LSLI writes x * 2^n modulo 2^32, LSRI the unsigned x divided by 2^n rounded
down, ASRI the signed x divided by 2^n rounded toward minus infinity. No flag and nothing else changes. That K is
ignored is read from 90_conflicts.md C4 (log entry 39, DEDUCED). -/
def Obligations.ImmediateShiftResult : Prop :=
  ∀ (s : State) (a : RegNum) (imm : BitVec 5) (x : Word), s.iobyp = false → Holds s a x →
    decode (0b000111#6 ++ imm ++ a) = .ok (.lsli a imm) ∧
    exec (.lsli a imm) s = .next (State.advanced (s.withReg a (BitVec.ofNat 32 (x.toNat * 2 ^ imm.toNat)))) ∧
    decode (0b001001#6 ++ imm ++ a) = .ok (.lsri a imm) ∧
    exec (.lsri a imm) s = .next (State.advanced (s.withReg a (BitVec.ofNat 32 (x.toNat / 2 ^ imm.toNat)))) ∧
    decode (0b001011#6 ++ imm ++ a) = .ok (.asri a imm) ∧
    exec (.asri a imm) s = .next (State.advanced (s.withReg a (BitVec.ofInt 32 (x.toInt / (2 ^ imm.toNat : Nat)))))

/-- RLC and RRC rotate the 33 bits C : RA by one place; C alone of the flags is written. For every state with no PFXIO
before and x[A] = x: RLC writes (x << 1) with the old C in bit 0 and sets C to the old bit 31; RRC writes (x >> 1)
with the old C in bit 31 and sets C to the old bit 0. N, V, Z and everything else are unchanged. That both right-hand
sides are the old values is read from 90_conflicts.md C23 (log entry 37, DEDUCED). -/
def Obligations.RotateResult : Prop :=
  ∀ (s : State) (a : RegNum) (x : Word), s.iobyp = false → Holds s a x →
    decode (0b01111100101#11 ++ a) = .ok (.rlc a) ∧
    exec (.rlc a) s = .next (State.advanced { s.withReg a ((x <<< 1) ||| (if s.status.c then 1#32 else 0#32)) with
      status := { s.status with c := x.getLsbD 31 } }) ∧
    decode (0b01111100110#11 ++ a) = .ok (.rrc a) ∧
    exec (.rrc a) s = .next (State.advanced { s.withReg a ((if s.status.c then 0x80000000#32 else 0#32) ||| (x >>> 1)) with
      status := { s.status with c := x.getLsbD 0 } })

/-- MOV, MOVI, MOVHI, BGEN and SWAP: what each writes to x[A], with no flag touched. For every state with no PFXIO
before: MOV copies x[B] = y; MOVI writes 32 K + IMM5; MOVHI puts K : IMM5 in bits 31..16 and keeps bits 15..0 of x[A]
= x; BGEN writes 2 to the IMM5; SWAP exchanges the half-words of x. MOV needs x[B] readable, the others x[A]. Nothing
else changes. -/
def Obligations.MoveResult : Prop :=
  ∀ (s : State) (a b : RegNum) (imm : BitVec 5) (x y : Word), s.iobyp = false → Holds s a x →
    decode (0b001100#6 ++ b ++ a) = .ok (.mov a b) ∧
    (Holds s b y → exec (.mov a b) s = .next (State.advanced (s.withReg a y))) ∧
    decode (0b001101#6 ++ imm ++ a) = .ok (.movi a imm) ∧
    exec (.movi a imm) s = .next (State.advanced (s.withReg a (BitVec.ofNat 32 (32 * s.k.toNat + imm.toNat)))) ∧
    decode (0b011011#6 ++ imm ++ a) = .ok (.movhi a imm) ∧
    exec (.movhi a imm) s = .next (State.advanced (s.withReg a
      (BitVec.ofNat 32 (2 ^ 16 * (32 * s.k.toNat + imm.toNat) + x.toNat % 2 ^ 16)))) ∧
    decode (0b010010#6 ++ imm ++ a) = .ok (.bgen a imm) ∧
    exec (.bgen a imm) s = .next (State.advanced (s.withReg a (BitVec.ofNat 32 (2 ^ imm.toNat)))) ∧
    decode (0b01111101000#11 ++ a) = .ok (.swap a) ∧
    exec (.swap a) s = .next (State.advanced (s.withReg a ((x <<< 16) ||| (x >>> 16)))) ∧
    decode 0x3000#16 = .ok (.mov 0#5 0#5)

/-- SEXT8 and SEXT16 write the signed value of the low byte or half-word, with no flag touched. For every state with
no PFXIO before and x[A] = x: SEXT8 writes the signed value of bits 7..0, SEXT16 that of bits 15..0, as 32-bit
numbers. Nothing else changes. -/
def Obligations.SignExtensionResult : Prop :=
  ∀ (s : State) (a : RegNum) (x : Word), s.iobyp = false → Holds s a x →
    decode (0b01111100011#11 ++ a) = .ok (.sext8 a) ∧
    exec (.sext8 a) s = .next (State.advanced (s.withReg a (BitVec.ofInt 32 (BitVec.ofNat 8 x.toNat).toInt))) ∧
    decode (0b01111100100#11 ++ a) = .ok (.sext16 a) ∧
    exec (.sext16 a) s = .next (State.advanced (s.withReg a (BitVec.ofInt 32 (BitVec.ofNat 16 x.toNat).toInt)))

/-- EXT8D, EXT8S, EXT16D and EXT16S write the selected byte or half-word, zero-extended. For every state with no PFXIO
before, x[A] = x and x[B] = y: EXT8D writes byte y[1:0] of x, EXT8S byte IMM2, EXT16D half-word y[1], EXT16S half-word
IMM1, each zero-extended; byte n of x is x divided by 2^(8n), modulo 2^8. No flag and nothing else changes. -/
def Obligations.ExtractResult : Prop :=
  ∀ (s : State) (a b : RegNum) (n : BitVec 2) (h : BitVec 1) (x y : Word), s.iobyp = false →
    Holds s a x → Holds s b y →
    decode (0b010011#6 ++ b ++ a) = .ok (.ext8d a b) ∧
    exec (.ext8d a b) s = .next (State.advanced (s.withReg a
      (BitVec.ofNat 32 (x.toNat / 2 ^ (8 * (y.toNat % 4)) % 2 ^ 8)))) ∧
    decode (0b011101000#9 ++ n ++ a) = .ok (.ext8s a n) ∧
    exec (.ext8s a n) s = .next (State.advanced (s.withReg a (BitVec.ofNat 32 (x.toNat / 2 ^ (8 * n.toNat) % 2 ^ 8)))) ∧
    decode (0b011010#6 ++ b ++ a) = .ok (.ext16d a b) ∧
    exec (.ext16d a b) s = .next (State.advanced (s.withReg a
      (BitVec.ofNat 32 (x.toNat / 2 ^ (16 * (y.toNat / 2 % 2)) % 2 ^ 16)))) ∧
    decode (0b011101001#9 ++ h ++ 0#1 ++ a) = .ok (.ext16s a h) ∧
    exec (.ext16s a h) s = .next (State.advanced (s.withReg a
      (BitVec.ofNat 32 (x.toNat / 2 ^ (16 * h.toNat) % 2 ^ 16))))

/-- FILL8 and FILL16 copy the low byte or half-word of x[A] into every lane of %r0. For every state with no PFXIO
before and x[A] = x, %r0 inside the file: FILL8 writes to %r0 the low byte of x times 0x01010101, FILL16 the low
half-word times 0x00010001. x[A] (unless A = 0), the flags and everything else are unchanged. -/
def Obligations.FillResult : Prop :=
  ∀ (s : State) (a : RegNum) (x : Word), s.iobyp = false → Holds s a x → RegExists s 0#5 →
    decode (0b01111110010#11 ++ a) = .ok (.fill8 a) ∧
    exec (.fill8 a) s = .next (State.advanced (s.withReg 0#5 (BitVec.ofNat 32 (x.toNat % 2 ^ 8 * 0x01010101)))) ∧
    decode (0b01111110011#11 ++ a) = .ok (.fill16 a) ∧
    exec (.fill16 a) s = .next (State.advanced (s.withReg 0#5 (BitVec.ofNat 32 (x.toNat % 2 ^ 16 * 0x00010001))))

/-- USR0 to USR4 write the result of the custom operation on two registers and K, and nothing else. For every state
with no PFXIO before, x[A] = x, x[B] = y and %r0 = r: USR0 writes USR_FN[0](x, y, K) to x[A], USRn writes USR_FN[n](x,
r, K) for n = 1 to 4. The operations are constants without a body (log entry 33): the statement holds for every choice
of them. No flag and nothing else changes. -/
def Obligations.CustomResult : Prop :=
  ∀ (s : State) (a b : RegNum) (x y r : Word), s.iobyp = false → Holds s a x →
    decode (0b011100#6 ++ b ++ a) = .ok (.usr0 a b) ∧
    (Holds s b y → exec (.usr0 a b) s = .next (State.advanced (s.withReg a (Config.usrFn 0 x y s.k)))) ∧
    decode (0b01111101001#11 ++ a) = .ok (.usr1 a) ∧ decode (0b01111101010#11 ++ a) = .ok (.usr2 a) ∧
    decode (0b01111101011#11 ++ a) = .ok (.usr3 a) ∧ decode (0b01111101100#11 ++ a) = .ok (.usr4 a) ∧
    (Holds s 0#5 r →
      exec (.usr1 a) s = .next (State.advanced (s.withReg a (Config.usrFn 1 x r s.k))) ∧
      exec (.usr2 a) s = .next (State.advanced (s.withReg a (Config.usrFn 2 x r s.k))) ∧
      exec (.usr3 a) s = .next (State.advanced (s.withReg a (Config.usrFn 3 x r s.k))) ∧
      exec (.usr4 a) s = .next (State.advanced (s.withReg a (Config.usrFn 4 x r s.k))))

/-- LD, LDP and LDS write the word at the aligned address to x[A]; no byte of memory and no flag changes. For every
state in which x[A] exists, and every base register value: LD reads at align32(x[B] + 4 sext(K)), LDP at align32(x[16
+ P] + 4 sext(K : IMM5)), LDS at align32(%sp + 4 IMM8), through the data cache or, for LD and LDP after PFXIO, past it
(LDS has no PFXIO before it). Where that read gives v (from the bus, where there is no data cache, it is disabled or
it is bypassed; from a line that holds the word; from the bus, filling the line, on a miss), the instruction
completes: it writes v to x[A] and goes on in sequence; a load through the cache leaves the word in its line and every
other line as it was; nothing else changes but the count of free values (a peripheral's word is one: log entry 7). -/
def Obligations.LoadResult : Prop :=
  ∀ (s : State) (a b : RegNum) (p : BitVec 2) (imm : BitVec 5) (imm8 : BitVec 8) (base v : Word) (f : Nat), RegExists s a →
    decode (0b010110#6 ++ b ++ a) = .ok (.ld a b) ∧
    (Holds s b base → LoadsWord s (align32 (base + prefixOffset s.k)) s.iobyp v f →
      ∃ t, exec (.ld a b) s = .next t ∧ Loaded s t a (align32 (base + prefixOffset s.k)) s.iobyp v f) ∧
    decode (0b1011#4 ++ p ++ imm ++ a) = .ok (.ldp a p imm) ∧
    (Holds s (pointerReg p) base → LoadsWord s (align32 (base + pointerOffset s.k imm)) s.iobyp v f →
      ∃ t, exec (.ldp a p imm) s = .next t ∧ Loaded s t a (align32 (base + pointerOffset s.k imm)) s.iobyp v f) ∧
    decode (0b111#3 ++ imm8 ++ a) = .ok (.lds a imm8) ∧
    (Holds s 14#5 base → s.iobyp = false → LoadsWord s (align32 (base + stackOffset imm8)) false v f →
      ∃ t, exec (.lds a imm8) s = .next t ∧ Loaded s t a (align32 (base + stackOffset imm8)) false v f)

/-- ST, STP and STS store the word x[A] at the aligned address and change no other byte. For every state with no PFXIO
before, x[A] = v and the base register: with w = align32(x[B] + 4 sext(K)) for ST, align32(x[16 + P] + 4 sext(K :
IMM5)) for STP, align32(%sp + 4 IMM8) for STS, and a region of the map that holds the word at w, the instruction
completes; in RAM the four bytes at w are those of v, lowest byte first, and every other byte is unchanged; in ROM or
a peripheral no byte of memory changes; a data cache gets the word in its line; no register and no flag changes. Where
no region of the map holds that word, the fault is unmapped. That fault and what ROM and a peripheral do are the
spec's decision D28 (log entries 7 and 31), the cache line with DC = 0 its decision D27 (log entry 27). -/
def Obligations.WordStoreResult : Prop :=
  ∀ (s : State) (a b : RegNum) (p : BitVec 2) (imm : BitVec 5) (imm8 : BitVec 8) (base v : Word) (kind : RegionKind),
    s.iobyp = false → Holds s a v →
    decode (0b010111#6 ++ b ++ a) = .ok (.st a b) ∧
    (Holds s b base → s.regionOf (align32 (base + prefixOffset s.k)).toNat 4 = .ok kind →
      ∃ t, exec (.st a b) s = .next t ∧ WordStored s t (align32 (base + prefixOffset s.k)) v kind) ∧
    (Holds s b base → Unmapped s (align32 (base + prefixOffset s.k)) 4 →
      exec (.st a b) s = .fault .unmapped) ∧
    decode (0b1010#4 ++ p ++ imm ++ a) = .ok (.stp a p imm) ∧
    (Holds s (pointerReg p) base → s.regionOf (align32 (base + pointerOffset s.k imm)).toNat 4 = .ok kind →
      ∃ t, exec (.stp a p imm) s = .next t ∧ WordStored s t (align32 (base + pointerOffset s.k imm)) v kind) ∧
    (Holds s (pointerReg p) base → Unmapped s (align32 (base + pointerOffset s.k imm)) 4 →
      exec (.stp a p imm) s = .fault .unmapped) ∧
    decode (0b110#3 ++ imm8 ++ a) = .ok (.sts a imm8) ∧
    (Holds s 14#5 base → s.regionOf (align32 (base + stackOffset imm8)).toNat 4 = .ok kind →
      ∃ t, exec (.sts a imm8) s = .next t ∧ WordStored s t (align32 (base + stackOffset imm8)) v kind) ∧
    (Holds s 14#5 base → Unmapped s (align32 (base + stackOffset imm8)) 4 →
      exec (.sts a imm8) s = .fault .unmapped)

/-- ST8D, ST8S and STS8S store one byte lane of %r0 in that lane of the addressed word and change no other byte. For
every state with no PFXIO before, %r0 = v and the base register: the lane n is x[A][1:0] for ST8D, IMM2 for ST8S,
IMM10[1:0] for STS8S; the word is w = align32(x[A] + 4 sext(K)), for STS8S align32(%sp + IMM10); the byte stored is
byte n of v, at w + n. In RAM that byte alone changes; in ROM or a peripheral none does; a data-cache line that holds
the word becomes invalid. No register and no flag changes. Where no region of the map holds the bytes stored, the
fault is unmapped. That ST8S and STS8S store the byte their immediate names whatever the low bits of the base is read
from 90_conflicts.md C13 (log entry 38, DEDUCED); ROM, peripherals and the fault are the spec's decision D28 (log
entries 7 and 31), the cache line its decision D27 (log entry 27). -/
def Obligations.ByteStoreResult : Prop :=
  ∀ (s : State) (a : RegNum) (n : BitVec 2) (imm : BitVec 10) (base v : Word) (kind : RegionKind),
    s.iobyp = false → Holds s 0#5 v →
    decode (0b01111110000#11 ++ a) = .ok (.st8d a) ∧
    (Holds s a base → s.regionOf (byteAddress (align32 (base + prefixOffset s.k)) (byteLane base)).toNat 1 = .ok kind →
      ∃ t, exec (.st8d a) s = .next t ∧
        PartStored s t (align32 (base + prefixOffset s.k)) (byteAddress (align32 (base + prefixOffset s.k)) (byteLane base))
          [v.extractLsb' (8 * (byteLane base).toNat) 8] kind) ∧
    (Holds s a base → Unmapped s (byteAddress (align32 (base + prefixOffset s.k)) (byteLane base)) 1 →
      exec (.st8d a) s = .fault .unmapped) ∧
    decode (0b011101100#9 ++ n ++ a) = .ok (.st8s a n) ∧
    (Holds s a base → s.regionOf (byteAddress (align32 (base + prefixOffset s.k)) n).toNat 1 = .ok kind →
      ∃ t, exec (.st8s a n) s = .next t ∧
        PartStored s t (align32 (base + prefixOffset s.k)) (byteAddress (align32 (base + prefixOffset s.k)) n)
          [v.extractLsb' (8 * n.toNat) 8] kind) ∧
    (Holds s a base → Unmapped s (byteAddress (align32 (base + prefixOffset s.k)) n) 1 →
      exec (.st8s a n) s = .fault .unmapped) ∧
    decode (0b011000#6 ++ imm) = .ok (.sts8s imm) ∧
    (Holds s 14#5 base → s.regionOf (byteAddress (stackByteWord base imm) (stackByteLane imm)).toNat 1 = .ok kind →
      ∃ t, exec (.sts8s imm) s = .next t ∧
        PartStored s t (stackByteWord base imm) (byteAddress (stackByteWord base imm) (stackByteLane imm))
          [v.extractLsb' (8 * (stackByteLane imm).toNat) 8] kind) ∧
    (Holds s 14#5 base → Unmapped s (byteAddress (stackByteWord base imm) (stackByteLane imm)) 1 →
      exec (.sts8s imm) s = .fault .unmapped)

/-- ST16D, ST16S and STS16S store one half-word lane of %r0 in that lane of the addressed word and change no other
byte. For every state with no PFXIO before, %r0 = v and the base register: the lane n is x[A][1] for ST16D, IMM1 for
ST16S, IMM9[0] for STS16S; the word is w = align32(x[A] + 4 sext(K)), for STS16S align32(%sp + 2 IMM9); the two bytes
of half-word n of v are stored at w + 2n, low byte first. In RAM those two bytes alone change; in ROM or a peripheral
none does; a data-cache line that holds the word becomes invalid. No register and no flag changes. Where no region of
the map holds the bytes stored, the fault is unmapped. That ST16S and STS16S store the half-word their immediate names
whatever the low bits of the base is read from 90_conflicts.md C13 (log entry 38, DEDUCED); ROM, peripherals and the
fault are the spec's decision D28 (log entries 7 and 31), the cache line its decision D27 (log entry 27). -/
def Obligations.HalfStoreResult : Prop :=
  ∀ (s : State) (a : RegNum) (n : BitVec 1) (imm : BitVec 9) (base v : Word) (kind : RegionKind),
    s.iobyp = false → Holds s 0#5 v →
    decode (0b01111110001#11 ++ a) = .ok (.st16d a) ∧
    (Holds s a base → s.regionOf (halfAddress (align32 (base + prefixOffset s.k)) (halfLane base)).toNat 2 = .ok kind →
      ∃ t, exec (.st16d a) s = .next t ∧
        PartStored s t (align32 (base + prefixOffset s.k)) (halfAddress (align32 (base + prefixOffset s.k)) (halfLane base))
          [v.extractLsb' (16 * (halfLane base).toNat) 8, v.extractLsb' (16 * (halfLane base).toNat + 8) 8] kind) ∧
    (Holds s a base → Unmapped s (halfAddress (align32 (base + prefixOffset s.k)) (halfLane base)) 2 →
      exec (.st16d a) s = .fault .unmapped) ∧
    decode (0b011101101#9 ++ n ++ 0#1 ++ a) = .ok (.st16s a n) ∧
    (Holds s a base → s.regionOf (halfAddress (align32 (base + prefixOffset s.k)) n).toNat 2 = .ok kind →
      ∃ t, exec (.st16s a n) s = .next t ∧
        PartStored s t (align32 (base + prefixOffset s.k)) (halfAddress (align32 (base + prefixOffset s.k)) n)
          [v.extractLsb' (16 * n.toNat) 8, v.extractLsb' (16 * n.toNat + 8) 8] kind) ∧
    (Holds s a base → Unmapped s (halfAddress (align32 (base + prefixOffset s.k)) n) 2 →
      exec (.st16s a n) s = .fault .unmapped) ∧
    decode (0b011001#6 ++ imm ++ 0#1) = .ok (.sts16s imm) ∧
    (Holds s 14#5 base → s.regionOf (halfAddress (stackHalfWord base imm) (stackHalfLane imm)).toNat 2 = .ok kind →
      ∃ t, exec (.sts16s imm) s = .next t ∧
        PartStored s t (stackHalfWord base imm) (halfAddress (stackHalfWord base imm) (stackHalfLane imm))
          [v.extractLsb' (16 * (stackHalfLane imm).toNat) 8, v.extractLsb' (16 * (stackHalfLane imm).toNat + 8) 8] kind) ∧
    (Holds s 14#5 base → Unmapped s (halfAddress (stackHalfWord base imm) (stackHalfLane imm)) 2 →
      exec (.sts16s imm) s = .fault .unmapped)

/-- PFX and PFXIO load K, mark the next instruction as prefixed and change nothing else. For every state in which the
last instruction was no prefix and no branch is pending: PFX and PFXIO set K to IMM11 and pfx; iobyp is set by PFXIO
and clear after PFX; pc goes on by 2. No register, flag or byte of memory changes. That a later instruction clears K
is PrefixStateClears; what a prefix does after a prefix or in a delay slot, PrefixStops and DelaySlotStops. -/
def Obligations.PrefixResult : Prop :=
  ∀ (s : State) (imm : BitVec 11), s.delay = none → s.pfx = false → s.iobyp = false →
    decode (0b10011#5 ++ imm) = .ok (.pfx imm) ∧
    exec (.pfx imm) s = .next { s with pc := s.pc + 2#32, k := imm, pfx := true, iobyp := false } ∧
    decode (0b10010#5 ++ imm) = .ok (.pfxio imm) ∧
    exec (.pfxio imm) s = .next { s with pc := s.pc + 2#32, k := imm, pfx := true, iobyp := true }

/-- A skip whose test fails goes on to the next instruction and fetches nothing. For every state with no PFXIO before
and no branch pending: SKP0 with bit IMM5 of x[A] = 1, SKP1 with it 0, SKPRZ with x[A] not 0, SKPRNZ with x[A] = 0 and
SKPS with its condition false go on at pc + 2; nothing else changes. The conditions are those of the table: C, not C,
Z, not Z, N, not N, not (N xor V), N xor V, Z or (N xor V), not (Z or (N xor V)), V, not V, C or Z, not (C or Z). That
a skip not taken fetches nothing is the model's reading, R253's PC form (log entry 41, DEDUCED): the manual's other
description has the next instruction fetched whatever the test gives. -/
def Obligations.SkipNotTaken : Prop :=
  ∀ (s : State) (a : RegNum) (imm : BitVec 5) (x : Word), s.iobyp = false → s.delay = none → Holds s a x →
    (x.toNat / 2 ^ imm.toNat % 2 = 1 → exec (.skp0 a imm) s = .next (s.jumped (s.pc + 2#32))) ∧
    (x.toNat / 2 ^ imm.toNat % 2 = 0 → exec (.skp1 a imm) s = .next (s.jumped (s.pc + 2#32))) ∧
    (x ≠ 0#32 → exec (.skprz a) s = .next (s.jumped (s.pc + 2#32))) ∧
    (x = 0#32 → exec (.skprnz a) s = .next (s.jumped (s.pc + 2#32))) ∧
    (∀ cc : Fin 14, skipConditions s.status cc = false →
      exec (.skps (BitVec.ofNat 4 cc)) s = .next (s.jumped (s.pc + 2#32)))

/-- A skip whose test holds passes over the next instruction, and over a prefix together with its successor. For every
state with no PFXIO before and no branch pending, and the half-word w fetched at pc + 2: SKP0 with bit IMM5 of x[A] =
0, SKP1 with it 1, SKPRZ with x[A] = 0, SKPRNZ with x[A] not 0 and SKPS with its condition true go on at pc + 6 where
bits 15..12 of w are 1001 (PFX or PFXIO) and at pc + 4 otherwise; nothing else changes but what the fetch changes (the
instruction cache, the count of free values). That the look-ahead is an ordinary fetch that may hit or fill a line is
the model's reading (log entries 40 and 41, DEDUCED). -/
def Obligations.SkipTaken : Prop :=
  ∀ (s u : State) (a : RegNum) (imm : BitVec 5) (x : Word) (w : Half), s.iobyp = false → s.delay = none →
    Holds s a x → s.fetch (s.pc + 2#32) = .ok (w, u) →
    let skipped := u.jumped (if w.toNat / 2 ^ 12 = 9 then s.pc + 6#32 else s.pc + 4#32)
    u = { s with icache := u.icache, freeCtr := u.freeCtr } ∧
    decode (0b010100#6 ++ imm ++ a) = .ok (.skp0 a imm) ∧
    exec (.skp0 a imm) s = .next (if x.toNat / 2 ^ imm.toNat % 2 = 0 then skipped else s.jumped (s.pc + 2#32)) ∧
    decode (0b010101#6 ++ imm ++ a) = .ok (.skp1 a imm) ∧
    exec (.skp1 a imm) s = .next (if x.toNat / 2 ^ imm.toNat % 2 = 1 then skipped else s.jumped (s.pc + 2#32)) ∧
    decode (0b01111110110#11 ++ a) = .ok (.skprz a) ∧
    exec (.skprz a) s = .next (if x = 0#32 then skipped else s.jumped (s.pc + 2#32)) ∧
    decode (0b01111111010#11 ++ a) = .ok (.skprnz a) ∧
    exec (.skprnz a) s = .next (if x ≠ 0#32 then skipped else s.jumped (s.pc + 2#32)) ∧
    (∀ cc : Fin 14, decode (0b011111101110#12 ++ BitVec.ofNat 4 cc) = .ok (.skps (BitVec.ofNat 4 cc)) ∧
      exec (.skps (BitVec.ofNat 4 cc)) s =
        .next (if skipConditions s.status cc then skipped else s.jumped (s.pc + 2#32)))

/-- BR and BSR branch to pc + 2 + 2 IMM11 after the slot; BSR leaves (pc + 4) / 2 in %o7. For every state with no
PFXIO before and no branch pending: BR and BSR make the instruction at pc + 2 the next one and pc + 2 + 2 times the
signed IMM11 (modulo 2^32) the one after it; BSR, where %o7 exists, also writes (pc + 4) shifted right by one to %o7.
No flag and nothing else changes; K is not used. -/
def Obligations.RelativeBranchResult : Prop :=
  ∀ (s : State) (imm : BitVec 11), s.iobyp = false → s.delay = none →
    decode (0b10000#5 ++ imm) = .ok (.br imm) ∧
    exec (.br imm) s = .next (s.branched (s.pc + BitVec.ofInt 32 (2 + 2 * imm.toInt))) ∧
    decode (0b10001#5 ++ imm) = .ok (.bsr imm) ∧
    (RegExists s 15#5 → exec (.bsr imm) s =
      .next ((s.withReg 15#5 ((s.pc + 4#32) >>> 1)).branched (s.pc + BitVec.ofInt 32 (2 + 2 * imm.toInt))))

/-- JMP and CALL go to twice x[A] after the slot; CALL leaves (pc + 4) / 2 in %o7 and jumps to the old x[A]. For every
state with no PFXIO before, no branch pending and x[A] = x: JMP and CALL make the instruction at pc + 2 the next one
and x << 1 (bit 31 of x lost) the one after it; CALL, where %o7 exists, also writes (pc + 4) shifted right by one to
%o7, after x has been read. No flag and nothing else changes. -/
def Obligations.JumpResult : Prop :=
  ∀ (s : State) (a : RegNum) (x : Word), s.iobyp = false → s.delay = none → Holds s a x →
    decode (0b01111111110#11 ++ a) = .ok (.jmp a) ∧
    exec (.jmp a) s = .next (s.branched (x <<< 1)) ∧
    decode (0b01111111111#11 ++ a) = .ok (.call a) ∧
    (RegExists s 15#5 → exec (.call a) s =
      .next ((s.withReg 15#5 ((s.pc + 4#32) >>> 1)).branched (x <<< 1))) ∧
    (x <<< 1).getLsbD 0 = false

/-- SAVE opens the window below with %sp = %fp - 4 IMM8 there, and raises exception 1 exactly at LO_LIMIT, unmasked.
For every state with no PFXIO before, let d be CWP - 1 modulo 32 and %fp = fp in window d: SAVE makes d the window and
writes fp - 4 IMM8 to its %sp. If CWP was not LO_LIMIT, or IE = 0, or IPRI <= 1, it then goes on in sequence (a masked
underflow is dropped: the spec's decision D6, log entry 11). Otherwise exception 1 is entered without another
decrement: ISTATUS holds STATUS with window d, %o7 of window d the address that would have executed next (the branch
target in a delay slot), and pc twice the word at VECBASE + 4; where no region of the map holds that word, the fault
is unmapped (D28, log entry 31). No flag changes. That the vector is read past the data cache is decision D18 (log
entry 28), that CWP wraps from 0 to 31 decision D14 (log entry 12). -/
def Obligations.SaveResult : Prop :=
  ∀ (s : State) (imm : BitVec 8) (fp : Word), s.iobyp = false →
    let d := s.status.cwp - 1#5
    let st := { s.status with cwp := d }
    let r := { s with regs := s.regs.set (phys d 14#5) (fp - imm.setWidth 32 * 4#32), status := st }
    s.regs[phys d 30#5]? = some fp →
    decode (0b01111000#8 ++ imm) = .ok (.save imm) ∧
    (¬ (s.status.cwp = s.wvalid.loLimit ∧ s.status.ie = true ∧ 1 < s.status.ipri.toNat) →
      exec (.save imm) s = .next r.advanced) ∧
    (s.status.cwp = s.wvalid.loLimit → s.status.ie = true → 1 < s.status.ipri.toNat →
      ∀ v f, BusWord s (s.cfg.vecBase + 4#32) v f →
        exec (.save imm) s = .next (r.inHandler st d 1#6 (s.delay.getD (s.pc + 2#32)) v f)) ∧
    (s.status.cwp = s.wvalid.loLimit → s.status.ie = true → 1 < s.status.ipri.toNat →
      Unmapped s (s.cfg.vecBase + 4#32) 4 → exec (.save imm) s = .fault .unmapped)

/-- RESTORE reopens the window above, and raises exception 2 exactly at HI_LIMIT, unmasked, in the window it left. For
every state with no PFXIO before: RESTORE makes CWP + 1 modulo 32 the window and writes no register. If CWP was not
HI_LIMIT, or IE = 0, or IPRI <= 2, it goes on in sequence. Otherwise exception 2 is entered: ISTATUS holds STATUS with
window CWP + 1, the handler runs in the old window, whose %o7 holds the address that would have executed next, and pc
is twice the word at VECBASE + 8; where no region of the map holds that word, the fault is unmapped (D28, log entry
31). No flag changes. That overflow is masked by IE and IPRI is the spec's decision D7 (log entry 15), that a masked
one is dropped its decision D6 (log entry 11), that the vector is read past the data cache D18 (log entry 28), that
CWP wraps from 31 to 0 D14 (log entry 12). -/
def Obligations.RestoreResult : Prop :=
  ∀ s : State, s.iobyp = false →
    let st := { s.status with cwp := s.status.cwp + 1#5 }
    decode 0b0111110110100000#16 = .ok .restore ∧
    (¬ (s.status.cwp = s.wvalid.hiLimit ∧ s.status.ie = true ∧ 2 < s.status.ipri.toNat) →
      exec .restore s = .next (State.advanced { s with status := st })) ∧
    (s.status.cwp = s.wvalid.hiLimit → s.status.ie = true → 2 < s.status.ipri.toNat → RegExists s 15#5 →
      ∀ v f, BusWord s (s.cfg.vecBase + 8#32) v f →
        exec .restore s = .next (s.inHandler st s.status.cwp 2#6 (s.delay.getD (s.pc + 2#32)) v f)) ∧
    (s.status.cwp = s.wvalid.hiLimit → s.status.ie = true → 2 < s.status.ipri.toNat → RegExists s 15#5 →
      Unmapped s (s.cfg.vecBase + 8#32) 4 → exec .restore s = .fault .unmapped)

/-- TRAP n enters the handler of exception n whatever IE and IPRI are, with pc + 2 as return address. For every state
with no PFXIO before and no branch pending, n not 0, and %o7 of the window below inside the file: where the vector
word v can be read, TRAP saves STATUS in ISTATUS, clears IE, sets IPRI to n, decrements CWP modulo 32, writes (pc + 2)
shifted right by one to %o7 of the new window and goes on at twice the word at VECBASE + 4n. N, V, Z, C, DC and IC
stay in STATUS; no other register and no byte of memory changes. Where no region of the map holds the vector word, the
fault is unmapped (D28, log entry 31). That the vector is read past the data cache is the spec's decision D18 (log
entry 28), that CWP wraps D14 (log entry 12); TRAP 0 is UndefinedInstructionStops, a missing %o7 MissingRegisterStops.
-/
def Obligations.TrapResult : Prop :=
  ∀ (s : State) (n : BitVec 6), s.iobyp = false → s.delay = none → n ≠ 0#6 →
    phys (s.status.cwp - 1#5) 15#5 < s.regs.length →
    decode (0b0111100100#10 ++ n) = .ok (.trap n) ∧
    (∀ v f, BusWord s (s.cfg.vecBase + n.setWidth 32 * 4#32) v f →
      exec (.trap n) s = .next (s.inHandler s.status (s.status.cwp - 1#5) n (s.pc + 2#32) v f)) ∧
    (Unmapped s (s.cfg.vecBase + n.setWidth 32 * 4#32) 4 → exec (.trap n) s = .fault .unmapped)

/-- TRET copies ISTATUS to STATUS and goes on at twice x[A], read through the window before the copy. For every state
with no PFXIO before, no branch pending and x[A] = x in the window in force: TRET makes STATUS equal to ISTATUS (DC
and IC stay 0 without their cache: the spec's decision D8), all four flags and the window included, and goes on at x
<< 1 without a delay slot. ISTATUS, the registers and memory are unchanged. -/
def Obligations.TretResult : Prop :=
  ∀ (s : State) (a : RegNum) (x : Word), s.iobyp = false → s.delay = none → Holds s a x →
    decode (0b01111101110#11 ++ a) = .ok (.tret a) ∧
    exec (.tret a) s = .next (State.jumped { s with status := { s.istatus with
      dc := s.istatus.dc && s.cfg.hasDCache
      ic := s.istatus.ic && s.cfg.hasICache } } (x <<< 1))

/-- TRET %o7 after TRAP n goes on right after the TRAP with the STATUS from before it. For every state s in which pc
is even, DC and IC are 0 where their cache is absent: if TRAP n, executed at s, leads to t and TRET %o7, executed at
t, leads to u, then u goes on at pc + 2 of the TRAP, STATUS in u is that of s, and every register but %o7 of the
handler's window, and every byte of memory, is as in s. -/
def Obligations.TrapReturn : Prop :=
  ∀ (s t u : State) (n : BitVec 6), s.pc.getLsbD 0 = false →
    (s.status.dc = true → s.cfg.hasDCache = true) → (s.status.ic = true → s.cfg.hasICache = true) →
    exec (.trap n) s = .next t → exec (.tret 15#5) t = .next u →
    u.pc = s.pc + 2#32 ∧ u.status = s.status ∧ SameMemory s u ∧
      ∀ p, p ≠ phys (s.status.cwp - 1#5) 15#5 → u.regs[p]? = s.regs[p]?

/-- RDCTL writes the control register that K names to x[A] and changes no control register. For every state with no
PFXIO before and x[A] inside the file: K = 0 gives STATUS (bits 31..18 zero, DC IC IE IPRI CWP N V Z C below), K = 1
ISTATUS in the same layout, K = 2 HI_LIMIT in bits 9..5 and LO_LIMIT in bits 4..0, K = 6 CPU_ID in bits 15..0; K = 5,
7, 8, 9 give a free value, counted as drawn (log entry 6: the manual calls it undefined). Nothing else changes. The
zero bits are the spec's decision D9 (log entry 10). -/
def Obligations.RdctlResult : Prop :=
  ∀ (s : State) (a : RegNum), s.iobyp = false → RegExists s a →
    let word := fun st : Status => (0#14 ++ (BitVec.ofBool st.dc ++ BitVec.ofBool st.ic ++ BitVec.ofBool st.ie ++
      st.ipri ++ st.cwp ++ BitVec.ofBool st.n ++ BitVec.ofBool st.v ++ BitVec.ofBool st.z ++ BitVec.ofBool st.c) : Word)
    decode (0b01111111001#11 ++ a) = .ok (.rdctl a) ∧
    (s.k = 0#11 → exec (.rdctl a) s = .next (State.advanced (s.withReg a (word s.status)))) ∧
    (s.k = 1#11 → exec (.rdctl a) s = .next (State.advanced (s.withReg a (word s.istatus)))) ∧
    (s.k = 2#11 → exec (.rdctl a) s = .next (State.advanced (s.withReg a (0#22 ++ s.wvalid.hiLimit ++ s.wvalid.loLimit)))) ∧
    (s.k = 6#11 → exec (.rdctl a) s = .next (State.advanced (s.withReg a (0#16 ++ s.cfg.cpuId)))) ∧
    (s.k = 5#11 ∨ s.k = 7#11 ∨ s.k = 8#11 ∨ s.k = 9#11 →
      exec (.rdctl a) s = .next (State.advanced
        { s.withReg a (Config.freeWord s.freeCtr) with freeCtr := s.freeCtr + 1 }))

/-- WRCTL writes x[A] to the control register that K names, with the effect that register has. For every state with no
PFXIO before and x[A] = v: K = 0 writes all of STATUS (DC and IC only where the cache exists) and makes a NOP due; K =
1 writes ISTATUS; K = 2 writes WVALID where it is writable and does nothing where it is not; K = 8 clears IE and K = 9
sets it, the value ignored; K = 5 and K = 7 do nothing without the cache, make the line of the address v invalid with
the cache disabled, and end in a fault by name with the cache enabled. Nothing else changes. DC, IC and the two
invalidate registers of a cache that is absent are the spec's decision D8 (log entry 9), the bits of STATUS, ISTATUS
and WVALID that are dropped D9 (log entry 10), the NOP due D22 (log entry 17), the faults with the cache enabled the
choice of its U3 and U4 (log entry 24). That the line of v is made invalid whatever its tag is the spec's inference in
R103 and R108, not the manual's words (log entry 40, DEDUCED). -/
def Obligations.WrctlResult : Prop :=
  ∀ (s : State) (a : RegNum) (v : Word), s.iobyp = false → Holds s a v →
    let written : Status :=
      { dc := v.getLsbD 17 && s.cfg.hasDCache
        ic := v.getLsbD 16 && s.cfg.hasICache
        ie := v.getLsbD 15
        ipri := v.extractLsb' 9 6
        cwp := v.extractLsb' 4 5
        n := v.getLsbD 3
        v := v.getLsbD 2
        z := v.getLsbD 1
        c := v.getLsbD 0 }
    decode (0b01111111000#11 ++ a) = .ok (.wrctl a) ∧
    (s.k = 0#11 → exec (.wrctl a) s = .next (State.advanced { s with status := written, nopdue := true })) ∧
    (s.k = 1#11 → exec (.wrctl a) s = .next (State.advanced { s with istatus := written })) ∧
    (s.k = 2#11 → s.cfg.wvalidWritable = true → exec (.wrctl a) s = .next (State.advanced
      { s with wvalid := { hiLimit := v.extractLsb' 5 5, loLimit := v.extractLsb' 0 5 } })) ∧
    (s.k = 2#11 → s.cfg.wvalidWritable = false → exec (.wrctl a) s = .next s.advanced) ∧
    (s.k = 8#11 → exec (.wrctl a) s = .next (State.advanced { s with status := { s.status with ie := false } })) ∧
    (s.k = 9#11 → exec (.wrctl a) s = .next (State.advanced { s with status := { s.status with ie := true } })) ∧
    (s.k = 5#11 → (s.cfg.hasICache = false → exec (.wrctl a) s = .next s.advanced) ∧
      (s.cfg.hasICache = true → s.status.ic = true → exec (.wrctl a) s = .fault .icacheWriteEnabled) ∧
      (s.cfg.hasICache = true → s.status.ic = false → ∃ t, exec (.wrctl a) s = .next t ∧
        t = State.advanced { s with icache := t.icache } ∧ SetsFetchLine s t v .invalid)) ∧
    (s.k = 7#11 → (s.cfg.hasDCache = false → exec (.wrctl a) s = .next s.advanced) ∧
      (s.cfg.hasDCache = true → s.status.dc = true → exec (.wrctl a) s = .fault .dcacheWriteEnabled) ∧
      (s.cfg.hasDCache = true → s.status.dc = false → ∃ t, exec (.wrctl a) s = .next t ∧
        t = State.advanced { s with dcache := t.dcache } ∧ SetsDataLine s t v .invalid))
end

