-- ==== Sys2Proof/Laws/Encoding.lean ====
section
/-! SUPPORT. The fields of a word written as a bit row: for each shape of row, what each bit field the decoder reads is.
The names say the format and the field: `rr_10_6` is the 6 bits from bit 10 of a word of format RR. -/

namespace Sys2Proof

theorem extract_append_high {m n : Nat} (x : BitVec m) (y : BitVec n) (s t l : Nat) (h : s = n + t) :
    (x ++ y).extractLsb' s l = x.extractLsb' t l := by
  apply BitVec.eq_of_getLsbD_eq
  intro i hi
  have h1 : ¬ s + i < n := by omega
  have h2 : s + i - n = t + i := by omega
  simp [BitVec.getLsbD_append, h1, h2]

theorem extract_append_low {m n : Nat} (x : BitVec m) (y : BitVec n) (s l : Nat) (h : s + l ≤ n) :
    (x ++ y).extractLsb' s l = y.extractLsb' s l := by
  apply BitVec.eq_of_getLsbD_eq
  intro i hi
  have h1 : s + i < n := by omega
  simp [BitVec.getLsbD_append, h1]

theorem rr_13_3 (l : BitVec 6) (b : BitVec 5) (a : BitVec 5) : @BitVec.extractLsb' 16 13 3 (l ++ b ++ a) = l.extractLsb' 3 3 :=
  (extract_append_high (l ++ b) a 13 8 3 (by decide)).trans (extract_append_high l b 8 3 3 (by decide))
theorem rr_12_4 (l : BitVec 6) (b : BitVec 5) (a : BitVec 5) : @BitVec.extractLsb' 16 12 4 (l ++ b ++ a) = l.extractLsb' 2 4 :=
  (extract_append_high (l ++ b) a 12 7 4 (by decide)).trans (extract_append_high l b 7 2 4 (by decide))
theorem rr_11_5 (l : BitVec 6) (b : BitVec 5) (a : BitVec 5) : @BitVec.extractLsb' 16 11 5 (l ++ b ++ a) = l.extractLsb' 1 5 :=
  (extract_append_high (l ++ b) a 11 6 5 (by decide)).trans (extract_append_high l b 6 1 5 (by decide))
theorem rr_10_6 (l : BitVec 6) (b : BitVec 5) (a : BitVec 5) : @BitVec.extractLsb' 16 10 6 (l ++ b ++ a) = l :=
  (extract_append_high (l ++ b) a 10 5 6 (by decide)).trans ((extract_append_high l b 5 0 6 (by decide)).trans (BitVec.extractLsb'_eq_self))
theorem rr_5_5 (l : BitVec 6) (b : BitVec 5) (a : BitVec 5) : @BitVec.extractLsb' 16 5 5 (l ++ b ++ a) = b :=
  (extract_append_high (l ++ b) a 5 0 5 (by decide)).trans ((extract_append_low l b 0 5 (by decide)).trans (BitVec.extractLsb'_eq_self))
theorem rr_0_5 (l : BitVec 6) (b : BitVec 5) (a : BitVec 5) : @BitVec.extractLsb' 16 0 5 (l ++ b ++ a) = a :=
  (extract_append_low (l ++ b) a 0 5 (by decide)).trans (BitVec.extractLsb'_eq_self)
theorem ri8_13_3 (l : BitVec 3) (b : BitVec 8) (a : BitVec 5) : @BitVec.extractLsb' 16 13 3 (l ++ b ++ a) = l :=
  (extract_append_high (l ++ b) a 13 8 3 (by decide)).trans ((extract_append_high l b 8 0 3 (by decide)).trans (BitVec.extractLsb'_eq_self))
theorem ri8_5_8 (l : BitVec 3) (b : BitVec 8) (a : BitVec 5) : @BitVec.extractLsb' 16 5 8 (l ++ b ++ a) = b :=
  (extract_append_high (l ++ b) a 5 0 8 (by decide)).trans ((extract_append_low l b 0 8 (by decide)).trans (BitVec.extractLsb'_eq_self))
theorem ri8_0_5 (l : BitVec 3) (b : BitVec 8) (a : BitVec 5) : @BitVec.extractLsb' 16 0 5 (l ++ b ++ a) = a :=
  (extract_append_low (l ++ b) a 0 5 (by decide)).trans (BitVec.extractLsb'_eq_self)
theorem rp_13_3 (l : BitVec 4) (c : BitVec 2) (b : BitVec 5) (a : BitVec 5) : @BitVec.extractLsb' 16 13 3 (l ++ c ++ b ++ a) = l.extractLsb' 1 3 :=
  (extract_append_high (l ++ c ++ b) a 13 8 3 (by decide)).trans ((extract_append_high (l ++ c) b 8 3 3 (by decide)).trans (extract_append_high l c 3 1 3 (by decide)))
theorem rp_12_4 (l : BitVec 4) (c : BitVec 2) (b : BitVec 5) (a : BitVec 5) : @BitVec.extractLsb' 16 12 4 (l ++ c ++ b ++ a) = l :=
  (extract_append_high (l ++ c ++ b) a 12 7 4 (by decide)).trans ((extract_append_high (l ++ c) b 7 2 4 (by decide)).trans ((extract_append_high l c 2 0 4 (by decide)).trans (BitVec.extractLsb'_eq_self)))
theorem rp_10_2 (l : BitVec 4) (c : BitVec 2) (b : BitVec 5) (a : BitVec 5) : @BitVec.extractLsb' 16 10 2 (l ++ c ++ b ++ a) = c :=
  (extract_append_high (l ++ c ++ b) a 10 5 2 (by decide)).trans ((extract_append_high (l ++ c) b 5 0 2 (by decide)).trans ((extract_append_low l c 0 2 (by decide)).trans (BitVec.extractLsb'_eq_self)))
theorem rp_5_5 (l : BitVec 4) (c : BitVec 2) (b : BitVec 5) (a : BitVec 5) : @BitVec.extractLsb' 16 5 5 (l ++ c ++ b ++ a) = b :=
  (extract_append_high (l ++ c ++ b) a 5 0 5 (by decide)).trans ((extract_append_low (l ++ c) b 0 5 (by decide)).trans (BitVec.extractLsb'_eq_self))
theorem rp_0_5 (l : BitVec 4) (c : BitVec 2) (b : BitVec 5) (a : BitVec 5) : @BitVec.extractLsb' 16 0 5 (l ++ c ++ b ++ a) = a :=
  (extract_append_low (l ++ c ++ b) a 0 5 (by decide)).trans (BitVec.extractLsb'_eq_self)
theorem i11_13_3 (l : BitVec 5) (a : BitVec 11) : @BitVec.extractLsb' 16 13 3 (l ++ a) = l.extractLsb' 2 3 :=
  (extract_append_high l a 13 2 3 (by decide))
theorem i11_12_4 (l : BitVec 5) (a : BitVec 11) : @BitVec.extractLsb' 16 12 4 (l ++ a) = l.extractLsb' 1 4 :=
  (extract_append_high l a 12 1 4 (by decide))
theorem i11_11_5 (l : BitVec 5) (a : BitVec 11) : @BitVec.extractLsb' 16 11 5 (l ++ a) = l :=
  (extract_append_high l a 11 0 5 (by decide)).trans (BitVec.extractLsb'_eq_self)
theorem i11_0_11 (l : BitVec 5) (a : BitVec 11) : @BitVec.extractLsb' 16 0 11 (l ++ a) = a :=
  (extract_append_low l a 0 11 (by decide)).trans (BitVec.extractLsb'_eq_self)
theorem u2_13_3 (l : BitVec 9) (b : BitVec 2) (a : BitVec 5) : @BitVec.extractLsb' 16 13 3 (l ++ b ++ a) = l.extractLsb' 6 3 :=
  (extract_append_high (l ++ b) a 13 8 3 (by decide)).trans (extract_append_high l b 8 6 3 (by decide))
theorem u2_12_4 (l : BitVec 9) (b : BitVec 2) (a : BitVec 5) : @BitVec.extractLsb' 16 12 4 (l ++ b ++ a) = l.extractLsb' 5 4 :=
  (extract_append_high (l ++ b) a 12 7 4 (by decide)).trans (extract_append_high l b 7 5 4 (by decide))
theorem u2_11_5 (l : BitVec 9) (b : BitVec 2) (a : BitVec 5) : @BitVec.extractLsb' 16 11 5 (l ++ b ++ a) = l.extractLsb' 4 5 :=
  (extract_append_high (l ++ b) a 11 6 5 (by decide)).trans (extract_append_high l b 6 4 5 (by decide))
theorem u2_10_6 (l : BitVec 9) (b : BitVec 2) (a : BitVec 5) : @BitVec.extractLsb' 16 10 6 (l ++ b ++ a) = l.extractLsb' 3 6 :=
  (extract_append_high (l ++ b) a 10 5 6 (by decide)).trans (extract_append_high l b 5 3 6 (by decide))
theorem u2_7_3 (l : BitVec 9) (b : BitVec 2) (a : BitVec 5) : @BitVec.extractLsb' 16 7 3 (l ++ b ++ a) = l.extractLsb' 0 3 :=
  (extract_append_high (l ++ b) a 7 2 3 (by decide)).trans (extract_append_high l b 2 0 3 (by decide))
theorem u2_5_2 (l : BitVec 9) (b : BitVec 2) (a : BitVec 5) : @BitVec.extractLsb' 16 5 2 (l ++ b ++ a) = b :=
  (extract_append_high (l ++ b) a 5 0 2 (by decide)).trans ((extract_append_low l b 0 2 (by decide)).trans (BitVec.extractLsb'_eq_self))
theorem u2_0_5 (l : BitVec 9) (b : BitVec 2) (a : BitVec 5) : @BitVec.extractLsb' 16 0 5 (l ++ b ++ a) = a :=
  (extract_append_low (l ++ b) a 0 5 (by decide)).trans (BitVec.extractLsb'_eq_self)
theorem u1_13_3 (l : BitVec 9) (c : BitVec 1) (b : BitVec 1) (a : BitVec 5) : @BitVec.extractLsb' 16 13 3 (l ++ c ++ b ++ a) = l.extractLsb' 6 3 :=
  (extract_append_high (l ++ c ++ b) a 13 8 3 (by decide)).trans ((extract_append_high (l ++ c) b 8 7 3 (by decide)).trans (extract_append_high l c 7 6 3 (by decide)))
theorem u1_12_4 (l : BitVec 9) (c : BitVec 1) (b : BitVec 1) (a : BitVec 5) : @BitVec.extractLsb' 16 12 4 (l ++ c ++ b ++ a) = l.extractLsb' 5 4 :=
  (extract_append_high (l ++ c ++ b) a 12 7 4 (by decide)).trans ((extract_append_high (l ++ c) b 7 6 4 (by decide)).trans (extract_append_high l c 6 5 4 (by decide)))
theorem u1_11_5 (l : BitVec 9) (c : BitVec 1) (b : BitVec 1) (a : BitVec 5) : @BitVec.extractLsb' 16 11 5 (l ++ c ++ b ++ a) = l.extractLsb' 4 5 :=
  (extract_append_high (l ++ c ++ b) a 11 6 5 (by decide)).trans ((extract_append_high (l ++ c) b 6 5 5 (by decide)).trans (extract_append_high l c 5 4 5 (by decide)))
theorem u1_10_6 (l : BitVec 9) (c : BitVec 1) (b : BitVec 1) (a : BitVec 5) : @BitVec.extractLsb' 16 10 6 (l ++ c ++ b ++ a) = l.extractLsb' 3 6 :=
  (extract_append_high (l ++ c ++ b) a 10 5 6 (by decide)).trans ((extract_append_high (l ++ c) b 5 4 6 (by decide)).trans (extract_append_high l c 4 3 6 (by decide)))
theorem u1_7_3 (l : BitVec 9) (c : BitVec 1) (b : BitVec 1) (a : BitVec 5) : @BitVec.extractLsb' 16 7 3 (l ++ c ++ b ++ a) = l.extractLsb' 0 3 :=
  (extract_append_high (l ++ c ++ b) a 7 2 3 (by decide)).trans ((extract_append_high (l ++ c) b 2 1 3 (by decide)).trans (extract_append_high l c 1 0 3 (by decide)))
theorem u1_6_1 (l : BitVec 9) (c : BitVec 1) (b : BitVec 1) (a : BitVec 5) : @BitVec.extractLsb' 16 6 1 (l ++ c ++ b ++ a) = c :=
  (extract_append_high (l ++ c ++ b) a 6 1 1 (by decide)).trans ((extract_append_high (l ++ c) b 1 0 1 (by decide)).trans ((extract_append_low l c 0 1 (by decide)).trans (BitVec.extractLsb'_eq_self)))
theorem u1_5_1 (l : BitVec 9) (c : BitVec 1) (b : BitVec 1) (a : BitVec 5) : @BitVec.extractLsb' 16 5 1 (l ++ c ++ b ++ a) = b :=
  (extract_append_high (l ++ c ++ b) a 5 0 1 (by decide)).trans ((extract_append_low (l ++ c) b 0 1 (by decide)).trans (BitVec.extractLsb'_eq_self))
theorem u1_0_5 (l : BitVec 9) (c : BitVec 1) (b : BitVec 1) (a : BitVec 5) : @BitVec.extractLsb' 16 0 5 (l ++ c ++ b ++ a) = a :=
  (extract_append_low (l ++ c ++ b) a 0 5 (by decide)).trans (BitVec.extractLsb'_eq_self)
theorem i8v_13_3 (l : BitVec 8) (a : BitVec 8) : @BitVec.extractLsb' 16 13 3 (l ++ a) = l.extractLsb' 5 3 :=
  (extract_append_high l a 13 5 3 (by decide))
theorem i8v_12_4 (l : BitVec 8) (a : BitVec 8) : @BitVec.extractLsb' 16 12 4 (l ++ a) = l.extractLsb' 4 4 :=
  (extract_append_high l a 12 4 4 (by decide))
theorem i8v_11_5 (l : BitVec 8) (a : BitVec 8) : @BitVec.extractLsb' 16 11 5 (l ++ a) = l.extractLsb' 3 5 :=
  (extract_append_high l a 11 3 5 (by decide))
theorem i8v_10_6 (l : BitVec 8) (a : BitVec 8) : @BitVec.extractLsb' 16 10 6 (l ++ a) = l.extractLsb' 2 6 :=
  (extract_append_high l a 10 2 6 (by decide))
theorem i8v_8_2 (l : BitVec 8) (a : BitVec 8) : @BitVec.extractLsb' 16 8 2 (l ++ a) = l.extractLsb' 0 2 :=
  (extract_append_high l a 8 0 2 (by decide))
theorem i8v_0_8 (l : BitVec 8) (a : BitVec 8) : @BitVec.extractLsb' 16 0 8 (l ++ a) = a :=
  (extract_append_low l a 0 8 (by decide)).trans (BitVec.extractLsb'_eq_self)
theorem i6v_13_3 (l : BitVec 10) (a : BitVec 6) : @BitVec.extractLsb' 16 13 3 (l ++ a) = l.extractLsb' 7 3 :=
  (extract_append_high l a 13 7 3 (by decide))
theorem i6v_12_4 (l : BitVec 10) (a : BitVec 6) : @BitVec.extractLsb' 16 12 4 (l ++ a) = l.extractLsb' 6 4 :=
  (extract_append_high l a 12 6 4 (by decide))
theorem i6v_11_5 (l : BitVec 10) (a : BitVec 6) : @BitVec.extractLsb' 16 11 5 (l ++ a) = l.extractLsb' 5 5 :=
  (extract_append_high l a 11 5 5 (by decide))
theorem i6v_10_6 (l : BitVec 10) (a : BitVec 6) : @BitVec.extractLsb' 16 10 6 (l ++ a) = l.extractLsb' 4 6 :=
  (extract_append_high l a 10 4 6 (by decide))
theorem i6v_8_2 (l : BitVec 10) (a : BitVec 6) : @BitVec.extractLsb' 16 8 2 (l ++ a) = l.extractLsb' 2 2 :=
  (extract_append_high l a 8 2 2 (by decide))
theorem i6v_6_2 (l : BitVec 10) (a : BitVec 6) : @BitVec.extractLsb' 16 6 2 (l ++ a) = l.extractLsb' 0 2 :=
  (extract_append_high l a 6 0 2 (by decide))
theorem i6v_0_6 (l : BitVec 10) (a : BitVec 6) : @BitVec.extractLsb' 16 0 6 (l ++ a) = a :=
  (extract_append_low l a 0 6 (by decide)).trans (BitVec.extractLsb'_eq_self)
theorem rw_13_3 (l : BitVec 11) (a : BitVec 5) : @BitVec.extractLsb' 16 13 3 (l ++ a) = l.extractLsb' 8 3 :=
  (extract_append_high l a 13 8 3 (by decide))
theorem rw_12_4 (l : BitVec 11) (a : BitVec 5) : @BitVec.extractLsb' 16 12 4 (l ++ a) = l.extractLsb' 7 4 :=
  (extract_append_high l a 12 7 4 (by decide))
theorem rw_11_5 (l : BitVec 11) (a : BitVec 5) : @BitVec.extractLsb' 16 11 5 (l ++ a) = l.extractLsb' 6 5 :=
  (extract_append_high l a 11 6 5 (by decide))
theorem rw_10_6 (l : BitVec 11) (a : BitVec 5) : @BitVec.extractLsb' 16 10 6 (l ++ a) = l.extractLsb' 5 6 :=
  (extract_append_high l a 10 5 6 (by decide))
theorem rw_5_5 (l : BitVec 11) (a : BitVec 5) : @BitVec.extractLsb' 16 5 5 (l ++ a) = l.extractLsb' 0 5 :=
  (extract_append_high l a 5 0 5 (by decide))
theorem rw_0_5 (l : BitVec 11) (a : BitVec 5) : @BitVec.extractLsb' 16 0 5 (l ++ a) = a :=
  (extract_append_low l a 0 5 (by decide)).trans (BitVec.extractLsb'_eq_self)
theorem i4w_13_3 (l : BitVec 12) (a : BitVec 4) : @BitVec.extractLsb' 16 13 3 (l ++ a) = l.extractLsb' 9 3 :=
  (extract_append_high l a 13 9 3 (by decide))
theorem i4w_12_4 (l : BitVec 12) (a : BitVec 4) : @BitVec.extractLsb' 16 12 4 (l ++ a) = l.extractLsb' 8 4 :=
  (extract_append_high l a 12 8 4 (by decide))
theorem i4w_11_5 (l : BitVec 12) (a : BitVec 4) : @BitVec.extractLsb' 16 11 5 (l ++ a) = l.extractLsb' 7 5 :=
  (extract_append_high l a 11 7 5 (by decide))
theorem i4w_10_6 (l : BitVec 12) (a : BitVec 4) : @BitVec.extractLsb' 16 10 6 (l ++ a) = l.extractLsb' 6 6 :=
  (extract_append_high l a 10 6 6 (by decide))
theorem i4w_5_5 (l : BitVec 12) (a : BitVec 4) : @BitVec.extractLsb' 16 5 5 (l ++ a) = l.extractLsb' 1 5 :=
  (extract_append_high l a 5 1 5 (by decide))
theorem i4w_4_1 (l : BitVec 12) (a : BitVec 4) : @BitVec.extractLsb' 16 4 1 (l ++ a) = l.extractLsb' 0 1 :=
  (extract_append_high l a 4 0 1 (by decide))
theorem i4w_0_4 (l : BitVec 12) (a : BitVec 4) : @BitVec.extractLsb' 16 0 4 (l ++ a) = a :=
  (extract_append_low l a 0 4 (by decide)).trans (BitVec.extractLsb'_eq_self)
theorem i10_13_3 (l : BitVec 6) (a : BitVec 10) : @BitVec.extractLsb' 16 13 3 (l ++ a) = l.extractLsb' 3 3 :=
  (extract_append_high l a 13 3 3 (by decide))
theorem i10_12_4 (l : BitVec 6) (a : BitVec 10) : @BitVec.extractLsb' 16 12 4 (l ++ a) = l.extractLsb' 2 4 :=
  (extract_append_high l a 12 2 4 (by decide))
theorem i10_11_5 (l : BitVec 6) (a : BitVec 10) : @BitVec.extractLsb' 16 11 5 (l ++ a) = l.extractLsb' 1 5 :=
  (extract_append_high l a 11 1 5 (by decide))
theorem i10_10_6 (l : BitVec 6) (a : BitVec 10) : @BitVec.extractLsb' 16 10 6 (l ++ a) = l :=
  (extract_append_high l a 10 0 6 (by decide)).trans (BitVec.extractLsb'_eq_self)
theorem i10_0_10 (l : BitVec 6) (a : BitVec 10) : @BitVec.extractLsb' 16 0 10 (l ++ a) = a :=
  (extract_append_low l a 0 10 (by decide)).trans (BitVec.extractLsb'_eq_self)
theorem i9_13_3 (l : BitVec 6) (b : BitVec 9) (a : BitVec 1) : @BitVec.extractLsb' 16 13 3 (l ++ b ++ a) = l.extractLsb' 3 3 :=
  (extract_append_high (l ++ b) a 13 12 3 (by decide)).trans (extract_append_high l b 12 3 3 (by decide))
theorem i9_12_4 (l : BitVec 6) (b : BitVec 9) (a : BitVec 1) : @BitVec.extractLsb' 16 12 4 (l ++ b ++ a) = l.extractLsb' 2 4 :=
  (extract_append_high (l ++ b) a 12 11 4 (by decide)).trans (extract_append_high l b 11 2 4 (by decide))
theorem i9_11_5 (l : BitVec 6) (b : BitVec 9) (a : BitVec 1) : @BitVec.extractLsb' 16 11 5 (l ++ b ++ a) = l.extractLsb' 1 5 :=
  (extract_append_high (l ++ b) a 11 10 5 (by decide)).trans (extract_append_high l b 10 1 5 (by decide))
theorem i9_10_6 (l : BitVec 6) (b : BitVec 9) (a : BitVec 1) : @BitVec.extractLsb' 16 10 6 (l ++ b ++ a) = l :=
  (extract_append_high (l ++ b) a 10 9 6 (by decide)).trans ((extract_append_high l b 9 0 6 (by decide)).trans (BitVec.extractLsb'_eq_self))
theorem i9_1_9 (l : BitVec 6) (b : BitVec 9) (a : BitVec 1) : @BitVec.extractLsb' 16 1 9 (l ++ b ++ a) = b :=
  (extract_append_high (l ++ b) a 1 0 9 (by decide)).trans ((extract_append_low l b 0 9 (by decide)).trans (BitVec.extractLsb'_eq_self))
theorem i9_0_1 (l : BitVec 6) (b : BitVec 9) (a : BitVec 1) : @BitVec.extractLsb' 16 0 1 (l ++ b ++ a) = a :=
  (extract_append_low (l ++ b) a 0 1 (by decide)).trans (BitVec.extractLsb'_eq_self)

end Sys2Proof
end

