-- ==== Sys2Proof/Laws/Sparse.lean ====
section
/-! SUPPORT. Tables with a default: what a read gives after a write, and that every write keeps the canonical form. -/

namespace Sys2Proof.Machine

variable {α : Type}

theorem sparseGet_filter_other (d : α) (l : List (Nat × α)) {a b : Nat} (h : b ≠ a) :
    sparseGet d (l.filter fun e => e.1 != a) b = sparseGet d l b := by
  induction l with
  | nil => rfl
  | cons e t ih =>
    obtain ⟨k, v⟩ := e
    by_cases hk : k = a
    · have hb : ¬ a = b := fun hab => h hab.symm
      simp [hk, hb, sparseGet, ih]
    · simp [hk, sparseGet, ih]

theorem sparseGet_filter_self (d : α) (l : List (Nat × α)) (a : Nat) :
    sparseGet d (l.filter fun e => e.1 != a) a = d := by
  induction l with
  | nil => rfl
  | cons e t ih =>
    obtain ⟨k, v⟩ := e
    by_cases hk : k = a
    · simp [hk, ih]
    · simp [hk, sparseGet, ih]

theorem sparseGet_insert_other (d : α) (l : List (Nat × α)) {a b : Nat} (v : α) (h : b ≠ a) :
    sparseGet d (sparseInsert a v l) b = sparseGet d l b := by
  have hb : ¬ a = b := fun hab => h hab.symm
  induction l with
  | nil => simp [sparseInsert, sparseGet, hb]
  | cons e t ih =>
    obtain ⟨k, w⟩ := e
    by_cases hk : a < k
    · simp [sparseInsert, hk, sparseGet, hb]
    · simp [sparseInsert, hk, sparseGet, ih]

theorem sparseGet_insert_self (d : α) (l : List (Nat × α)) (a : Nat) (v : α) (h : ∀ e ∈ l, e.1 ≠ a) :
    sparseGet d (sparseInsert a v l) a = v := by
  induction l with
  | nil => simp [sparseInsert, sparseGet]
  | cons e t ih =>
    obtain ⟨k, w⟩ := e
    have hk : k ≠ a := h (k, w) (by simp)
    by_cases hlt : a < k
    · simp [sparseInsert, hlt, sparseGet]
    · simp [sparseInsert, hlt, sparseGet, hk, ih fun e he => h e (by simp [he])]

/-- A read of the entry just set. -/
theorem sparseGet_set_self [DecidableEq α] (d : α) (l : List (Nat × α)) (a : Nat) (v : α) :
    sparseGet d (sparseSet d l a v) a = v := by
  unfold sparseSet
  by_cases hv : v = d
  · simp only [hv, if_true]; exact sparseGet_filter_self d l a
  · simp only [hv, if_false]
    exact sparseGet_insert_self d _ a v fun e he => by simpa using (List.mem_filter.mp he).2

/-- A read of another entry. -/
theorem sparseGet_set_other [DecidableEq α] (d : α) (l : List (Nat × α)) {a b : Nat} (v : α) (h : b ≠ a) :
    sparseGet d (sparseSet d l a v) b = sparseGet d l b := by
  unfold sparseSet
  by_cases hv : v = d
  · simp only [hv, if_true]; exact sparseGet_filter_other d l h
  · simp only [hv, if_false]
    rw [sparseGet_insert_other d _ v h, sparseGet_filter_other d l h]

theorem mem_sparseInsert {l : List (Nat × α)} {a : Nat} {v : α} {e : Nat × α} :
    e ∈ sparseInsert a v l ↔ e = (a, v) ∨ e ∈ l := by
  induction l with
  | nil => simp [sparseInsert]
  | cons f t ih =>
    obtain ⟨k, w⟩ := f
    by_cases hk : a < k
    · simp [sparseInsert, hk]
    · simp only [sparseInsert, hk, if_false, List.mem_cons, ih]
      tauto

/-- An entry of a table after a write is the new one or one that stood there before. -/
theorem mem_sparseSet [DecidableEq α] {d : α} {l : List (Nat × α)} {a : Nat} {v : α} {e : Nat × α}
    (h : e ∈ sparseSet d l a v) : e = (a, v) ∨ e ∈ l := by
  unfold sparseSet at h
  by_cases hv : v = d
  · simp only [hv, if_true] at h; exact .inr (List.mem_filter.mp h).1
  · simp only [hv, if_false] at h
    rcases mem_sparseInsert.mp h with h | h
    · exact .inl h
    · exact .inr (List.mem_filter.mp h).1

/-- The canonical form, entry by entry. -/
theorem sparseWf_iff [DecidableEq α] (d : α) (l : List (Nat × α)) :
    sparseWf d l = true ↔ l.Pairwise (fun e f => e.1 < f.1) ∧ ∀ e ∈ l, e.2 ≠ d := by
  simp [sparseWf, List.pairwise_map]

theorem sparseInsert_pairwise {l : List (Nat × α)} (a : Nat) (v : α)
    (h : l.Pairwise fun e f => e.1 < f.1) (ha : ∀ e ∈ l, e.1 ≠ a) :
    (sparseInsert a v l).Pairwise fun e f => e.1 < f.1 := by
  induction l with
  | nil => simp [sparseInsert]
  | cons e t ih =>
    obtain ⟨k, w⟩ := e
    rw [List.pairwise_cons] at h
    by_cases hk : a < k
    · simp only [sparseInsert, hk, if_true, List.pairwise_cons]
      refine ⟨fun f hf => ?_, h.1, h.2⟩
      rcases List.mem_cons.mp hf with rfl | hf
      · exact hk
      · exact hk.trans (h.1 f hf)
    · simp only [sparseInsert, hk, if_false, List.pairwise_cons]
      refine ⟨fun f hf => ?_, ih h.2 fun e he => ha e (by simp [he])⟩
      have hka : k ≠ a := ha (k, w) (by simp)
      rcases mem_sparseInsert.mp hf with rfl | hf
      · show k < a; omega
      · exact h.1 f hf

/-- A write keeps the canonical form. -/
theorem sparseWf_set [DecidableEq α] (d : α) (l : List (Nat × α)) (a : Nat) (v : α) (h : sparseWf d l = true) :
    sparseWf d (sparseSet d l a v) = true := by
  rw [sparseWf_iff] at h ⊢
  have hf : (l.filter fun e => e.1 != a).Pairwise fun e f => e.1 < f.1 := h.1.filter _
  unfold sparseSet
  by_cases hv : v = d
  · simp only [hv, if_true]
    exact ⟨hf, fun e he => h.2 e (List.mem_filter.mp he).1⟩
  · simp only [hv, if_false]
    refine ⟨sparseInsert_pairwise a v hf fun e he => by simpa using (List.mem_filter.mp he).2, fun e he => ?_⟩
    rcases mem_sparseInsert.mp he with rfl | he
    · exact hv
    · exact h.2 e (List.mem_filter.mp he).1

end Sys2Proof.Machine
end

