-- ==== Sys2Proof/Laws/Memory.lean ====
section
/-! SUPPORT. Memory: what a byte, a half-word or a word reads as after a write, and that every write keeps the canonical
form. -/

namespace Sys2Proof.Machine

theorem Memory.readByte_writeByte_self (m : Memory) (a : Nat) (b : Byte) : (m.writeByte a b).readByte a = b :=
  sparseGet_set_self _ _ _ _

theorem Memory.readByte_writeByte_other (m : Memory) {a c : Nat} (b : Byte) (h : c ≠ a) :
    (m.writeByte a b).readByte c = m.readByte c := sparseGet_set_other _ _ _ h

/-- A byte outside the bytes written keeps its value. -/
theorem Memory.readByte_writeBytes_outside (l : List Byte) (m : Memory) {a c : Nat}
    (h : c < a ∨ a + l.length ≤ c) : (m.writeBytes a l).readByte c = m.readByte c := by
  induction l generalizing m a with
  | nil => rfl
  | cons b t ih =>
    simp only [List.length_cons] at h
    rw [Memory.writeBytes, ih _ (by omega), Memory.readByte_writeByte_other _ _ (by omega)]

/-- The byte at offset `i` of the bytes written. -/
theorem Memory.readByte_writeBytes_inside (l : List Byte) (m : Memory) (a i : Nat) (h : i < l.length) :
    (m.writeBytes a l).readByte (a + i) = l[i] := by
  induction l generalizing m a i with
  | nil => simp at h
  | cons b t ih =>
    cases i with
    | zero =>
      rw [Memory.writeBytes, Memory.readByte_writeBytes_outside _ _ (by omega)]
      simpa using Memory.readByte_writeByte_self m a b
    | succ i =>
      simp only [List.length_cons, Nat.add_lt_add_iff_right] at h
      rw [Memory.writeBytes, show a + (i + 1) = a + 1 + i by omega, ih _ _ _ h]
      rfl

/-- The four bytes of a word, put together. -/
theorem word_of_bytes (v : BitVec (8 + 8 + 8 + 8)) :
    v.extractLsb' 24 8 ++ v.extractLsb' 16 8 ++ v.extractLsb' 8 8 ++ v.extractLsb' 0 8 = v := by
  apply BitVec.eq_of_getLsbD_eq
  intro i hi
  simp only [BitVec.getLsbD_append, BitVec.getLsbD_extractLsb']
  rcases Nat.lt_or_ge i 8 with h | h
  · simp [h]
  · rcases Nat.lt_or_ge i 16 with h' | h'
    · simp [Nat.not_lt.mpr h, show i - 8 < 8 by omega, show 8 + (i - 8) = i by omega]
    · rcases Nat.lt_or_ge i 24 with h'' | h''
      · simp [Nat.not_lt.mpr h, show ¬ i - 8 < 8 by omega, show i - 8 - 8 < 8 by omega, show 16 + (i - 8 - 8) = i by omega]
      · simp [Nat.not_lt.mpr h, show ¬ i - 8 < 8 by omega, show ¬ i - 8 - 8 < 8 by omega,
          show i - 8 - 8 - 8 < 8 by omega, show 24 + (i - 8 - 8 - 8) = i by omega]

/-- The two bytes of a half-word, put together. -/
theorem half_of_bytes (v : BitVec (8 + 8)) : v.extractLsb' 8 8 ++ v.extractLsb' 0 8 = v := by
  apply BitVec.eq_of_getLsbD_eq
  intro i hi
  simp only [BitVec.getLsbD_append, BitVec.getLsbD_extractLsb']
  rcases Nat.lt_or_ge i 8 with h | h
  · simp [h]
  · simp [Nat.not_lt.mpr h, show i - 8 < 8 by omega, show 8 + (i - 8) = i by omega]

/-- A word written is the word read back. -/
theorem Memory.readWord_writeBytes (m : Memory) (a : Nat) (v : Word) : (m.writeBytes a (wordBytes v)).readWord a = v := by
  have h0 := Memory.readByte_writeBytes_inside (wordBytes v) m a 0 (by simp [wordBytes])
  have h1 := Memory.readByte_writeBytes_inside (wordBytes v) m a 1 (by simp [wordBytes])
  have h2 := Memory.readByte_writeBytes_inside (wordBytes v) m a 2 (by simp [wordBytes])
  have h3 := Memory.readByte_writeBytes_inside (wordBytes v) m a 3 (by simp [wordBytes])
  rw [Nat.add_zero] at h0
  rw [Memory.readWord, h0, h1, h2, h3]
  exact word_of_bytes v

/-- A half-word written is the half-word read back. -/
theorem Memory.readHalf_writeBytes (m : Memory) (a : Nat) (v : Half) : (m.writeBytes a (halfBytes v)).readHalf a = v := by
  have h0 := Memory.readByte_writeBytes_inside (halfBytes v) m a 0 (by simp [halfBytes])
  have h1 := Memory.readByte_writeBytes_inside (halfBytes v) m a 1 (by simp [halfBytes])
  rw [Nat.add_zero] at h0
  rw [Memory.readHalf, h0, h1]
  exact half_of_bytes v

theorem Memory.wf_iff (m : Memory) :
    m.wf = true ↔ sparseWf unlistedByte m = true ∧ ∀ e ∈ m, e.1 < 2 ^ 32 := by
  simp [Memory.wf]

/-- Writing a byte of the address space keeps the canonical form. -/
theorem Memory.wf_writeByte (m : Memory) (a : Nat) (b : Byte) (h : m.wf = true) (ha : a < 2 ^ 32) :
    (m.writeByte a b).wf = true := by
  rw [Memory.wf_iff] at h ⊢
  refine ⟨sparseWf_set _ _ _ _ h.1, fun e he => ?_⟩
  rcases mem_sparseSet he with rfl | he
  · exact ha
  · exact h.2 e he

/-- Writing bytes of the address space keeps the canonical form. -/
theorem Memory.wf_writeBytes (l : List Byte) (m : Memory) (a : Nat) (h : m.wf = true) (ha : a + l.length ≤ 2 ^ 32) :
    (m.writeBytes a l).wf = true := by
  induction l generalizing m a with
  | nil => exact h
  | cons b t ih =>
    simp only [List.length_cons] at ha
    exact ih _ _ (Memory.wf_writeByte m a b h (by omega)) (by omega)

/-- Memory after reset is in its canonical form. -/
theorem Memory.wf_reset : State.reset.mem.wf = true := rfl

end Sys2Proof.Machine
end

