-- ==== Sys2Proof/Laws/State.lean ====
section
/-! SUPPORT. What each update of the state leaves in each field: one lemma per field per update, all true by `rfl`, so
that no proof unfolds a record update. -/

namespace Sys2Proof.Machine

/-! ### setRegs -/

@[simp] theorem State.setRegs_cfg (s : State) (r : List Word) : (s.setRegs r).cfg = s.cfg := rfl
@[simp] theorem State.setRegs_regs (s : State) (r : List Word) : (s.setRegs r).regs = r := rfl
@[simp] theorem State.setRegs_pc (s : State) (r : List Word) : (s.setRegs r).pc = s.pc := rfl
@[simp] theorem State.setRegs_k (s : State) (r : List Word) : (s.setRegs r).k = s.k := rfl
@[simp] theorem State.setRegs_pfx (s : State) (r : List Word) : (s.setRegs r).pfx = s.pfx := rfl
@[simp] theorem State.setRegs_iobyp (s : State) (r : List Word) : (s.setRegs r).iobyp = s.iobyp := rfl
@[simp] theorem State.setRegs_delay (s : State) (r : List Word) : (s.setRegs r).delay = s.delay := rfl
@[simp] theorem State.setRegs_nopdue (s : State) (r : List Word) : (s.setRegs r).nopdue = s.nopdue := rfl
@[simp] theorem State.setRegs_status (s : State) (r : List Word) : (s.setRegs r).status = s.status := rfl
@[simp] theorem State.setRegs_istatus (s : State) (r : List Word) : (s.setRegs r).istatus = s.istatus := rfl
@[simp] theorem State.setRegs_wvalid (s : State) (r : List Word) : (s.setRegs r).wvalid = s.wvalid := rfl
@[simp] theorem State.setRegs_dcache (s : State) (r : List Word) : (s.setRegs r).dcache = s.dcache := rfl
@[simp] theorem State.setRegs_icache (s : State) (r : List Word) : (s.setRegs r).icache = s.icache := rfl
@[simp] theorem State.setRegs_mem (s : State) (r : List Word) : (s.setRegs r).mem = s.mem := rfl
@[simp] theorem State.setRegs_irq (s : State) (r : List Word) : (s.setRegs r).irq = s.irq := rfl
@[simp] theorem State.setRegs_irqNumber (s : State) (r : List Word) : (s.setRegs r).irqNumber = s.irqNumber := rfl
@[simp] theorem State.setRegs_irqTrace (s : State) (r : List Word) : (s.setRegs r).irqTrace = s.irqTrace := rfl
@[simp] theorem State.setRegs_freeCtr (s : State) (r : List Word) : (s.setRegs r).freeCtr = s.freeCtr := rfl

/-! ### setStatus -/

@[simp] theorem State.setStatus_cfg (s : State) (st : Status) : (s.setStatus st).cfg = s.cfg := rfl
@[simp] theorem State.setStatus_regs (s : State) (st : Status) : (s.setStatus st).regs = s.regs := rfl
@[simp] theorem State.setStatus_pc (s : State) (st : Status) : (s.setStatus st).pc = s.pc := rfl
@[simp] theorem State.setStatus_k (s : State) (st : Status) : (s.setStatus st).k = s.k := rfl
@[simp] theorem State.setStatus_pfx (s : State) (st : Status) : (s.setStatus st).pfx = s.pfx := rfl
@[simp] theorem State.setStatus_iobyp (s : State) (st : Status) : (s.setStatus st).iobyp = s.iobyp := rfl
@[simp] theorem State.setStatus_delay (s : State) (st : Status) : (s.setStatus st).delay = s.delay := rfl
@[simp] theorem State.setStatus_nopdue (s : State) (st : Status) : (s.setStatus st).nopdue = s.nopdue := rfl
@[simp] theorem State.setStatus_status (s : State) (st : Status) : (s.setStatus st).status = st := rfl
@[simp] theorem State.setStatus_istatus (s : State) (st : Status) : (s.setStatus st).istatus = s.istatus := rfl
@[simp] theorem State.setStatus_wvalid (s : State) (st : Status) : (s.setStatus st).wvalid = s.wvalid := rfl
@[simp] theorem State.setStatus_dcache (s : State) (st : Status) : (s.setStatus st).dcache = s.dcache := rfl
@[simp] theorem State.setStatus_icache (s : State) (st : Status) : (s.setStatus st).icache = s.icache := rfl
@[simp] theorem State.setStatus_mem (s : State) (st : Status) : (s.setStatus st).mem = s.mem := rfl
@[simp] theorem State.setStatus_irq (s : State) (st : Status) : (s.setStatus st).irq = s.irq := rfl
@[simp] theorem State.setStatus_irqNumber (s : State) (st : Status) : (s.setStatus st).irqNumber = s.irqNumber := rfl
@[simp] theorem State.setStatus_irqTrace (s : State) (st : Status) : (s.setStatus st).irqTrace = s.irqTrace := rfl
@[simp] theorem State.setStatus_freeCtr (s : State) (st : Status) : (s.setStatus st).freeCtr = s.freeCtr := rfl

/-! ### setIstatus -/

@[simp] theorem State.setIstatus_cfg (s : State) (st : Status) : (s.setIstatus st).cfg = s.cfg := rfl
@[simp] theorem State.setIstatus_regs (s : State) (st : Status) : (s.setIstatus st).regs = s.regs := rfl
@[simp] theorem State.setIstatus_pc (s : State) (st : Status) : (s.setIstatus st).pc = s.pc := rfl
@[simp] theorem State.setIstatus_k (s : State) (st : Status) : (s.setIstatus st).k = s.k := rfl
@[simp] theorem State.setIstatus_pfx (s : State) (st : Status) : (s.setIstatus st).pfx = s.pfx := rfl
@[simp] theorem State.setIstatus_iobyp (s : State) (st : Status) : (s.setIstatus st).iobyp = s.iobyp := rfl
@[simp] theorem State.setIstatus_delay (s : State) (st : Status) : (s.setIstatus st).delay = s.delay := rfl
@[simp] theorem State.setIstatus_nopdue (s : State) (st : Status) : (s.setIstatus st).nopdue = s.nopdue := rfl
@[simp] theorem State.setIstatus_status (s : State) (st : Status) : (s.setIstatus st).status = s.status := rfl
@[simp] theorem State.setIstatus_istatus (s : State) (st : Status) : (s.setIstatus st).istatus = st := rfl
@[simp] theorem State.setIstatus_wvalid (s : State) (st : Status) : (s.setIstatus st).wvalid = s.wvalid := rfl
@[simp] theorem State.setIstatus_dcache (s : State) (st : Status) : (s.setIstatus st).dcache = s.dcache := rfl
@[simp] theorem State.setIstatus_icache (s : State) (st : Status) : (s.setIstatus st).icache = s.icache := rfl
@[simp] theorem State.setIstatus_mem (s : State) (st : Status) : (s.setIstatus st).mem = s.mem := rfl
@[simp] theorem State.setIstatus_irq (s : State) (st : Status) : (s.setIstatus st).irq = s.irq := rfl
@[simp] theorem State.setIstatus_irqNumber (s : State) (st : Status) : (s.setIstatus st).irqNumber = s.irqNumber := rfl
@[simp] theorem State.setIstatus_irqTrace (s : State) (st : Status) : (s.setIstatus st).irqTrace = s.irqTrace := rfl
@[simp] theorem State.setIstatus_freeCtr (s : State) (st : Status) : (s.setIstatus st).freeCtr = s.freeCtr := rfl

/-! ### setWvalid -/

@[simp] theorem State.setWvalid_cfg (s : State) (w : Wvalid) : (s.setWvalid w).cfg = s.cfg := rfl
@[simp] theorem State.setWvalid_regs (s : State) (w : Wvalid) : (s.setWvalid w).regs = s.regs := rfl
@[simp] theorem State.setWvalid_pc (s : State) (w : Wvalid) : (s.setWvalid w).pc = s.pc := rfl
@[simp] theorem State.setWvalid_k (s : State) (w : Wvalid) : (s.setWvalid w).k = s.k := rfl
@[simp] theorem State.setWvalid_pfx (s : State) (w : Wvalid) : (s.setWvalid w).pfx = s.pfx := rfl
@[simp] theorem State.setWvalid_iobyp (s : State) (w : Wvalid) : (s.setWvalid w).iobyp = s.iobyp := rfl
@[simp] theorem State.setWvalid_delay (s : State) (w : Wvalid) : (s.setWvalid w).delay = s.delay := rfl
@[simp] theorem State.setWvalid_nopdue (s : State) (w : Wvalid) : (s.setWvalid w).nopdue = s.nopdue := rfl
@[simp] theorem State.setWvalid_status (s : State) (w : Wvalid) : (s.setWvalid w).status = s.status := rfl
@[simp] theorem State.setWvalid_istatus (s : State) (w : Wvalid) : (s.setWvalid w).istatus = s.istatus := rfl
@[simp] theorem State.setWvalid_wvalid (s : State) (w : Wvalid) : (s.setWvalid w).wvalid = w := rfl
@[simp] theorem State.setWvalid_dcache (s : State) (w : Wvalid) : (s.setWvalid w).dcache = s.dcache := rfl
@[simp] theorem State.setWvalid_icache (s : State) (w : Wvalid) : (s.setWvalid w).icache = s.icache := rfl
@[simp] theorem State.setWvalid_mem (s : State) (w : Wvalid) : (s.setWvalid w).mem = s.mem := rfl
@[simp] theorem State.setWvalid_irq (s : State) (w : Wvalid) : (s.setWvalid w).irq = s.irq := rfl
@[simp] theorem State.setWvalid_irqNumber (s : State) (w : Wvalid) : (s.setWvalid w).irqNumber = s.irqNumber := rfl
@[simp] theorem State.setWvalid_irqTrace (s : State) (w : Wvalid) : (s.setWvalid w).irqTrace = s.irqTrace := rfl
@[simp] theorem State.setWvalid_freeCtr (s : State) (w : Wvalid) : (s.setWvalid w).freeCtr = s.freeCtr := rfl

/-! ### setDcache -/

@[simp] theorem State.setDcache_cfg (s : State) (d : List (Nat × DLine)) : (s.setDcache d).cfg = s.cfg := rfl
@[simp] theorem State.setDcache_regs (s : State) (d : List (Nat × DLine)) : (s.setDcache d).regs = s.regs := rfl
@[simp] theorem State.setDcache_pc (s : State) (d : List (Nat × DLine)) : (s.setDcache d).pc = s.pc := rfl
@[simp] theorem State.setDcache_k (s : State) (d : List (Nat × DLine)) : (s.setDcache d).k = s.k := rfl
@[simp] theorem State.setDcache_pfx (s : State) (d : List (Nat × DLine)) : (s.setDcache d).pfx = s.pfx := rfl
@[simp] theorem State.setDcache_iobyp (s : State) (d : List (Nat × DLine)) : (s.setDcache d).iobyp = s.iobyp := rfl
@[simp] theorem State.setDcache_delay (s : State) (d : List (Nat × DLine)) : (s.setDcache d).delay = s.delay := rfl
@[simp] theorem State.setDcache_nopdue (s : State) (d : List (Nat × DLine)) : (s.setDcache d).nopdue = s.nopdue := rfl
@[simp] theorem State.setDcache_status (s : State) (d : List (Nat × DLine)) : (s.setDcache d).status = s.status := rfl
@[simp] theorem State.setDcache_istatus (s : State) (d : List (Nat × DLine)) : (s.setDcache d).istatus = s.istatus := rfl
@[simp] theorem State.setDcache_wvalid (s : State) (d : List (Nat × DLine)) : (s.setDcache d).wvalid = s.wvalid := rfl
@[simp] theorem State.setDcache_dcache (s : State) (d : List (Nat × DLine)) : (s.setDcache d).dcache = d := rfl
@[simp] theorem State.setDcache_icache (s : State) (d : List (Nat × DLine)) : (s.setDcache d).icache = s.icache := rfl
@[simp] theorem State.setDcache_mem (s : State) (d : List (Nat × DLine)) : (s.setDcache d).mem = s.mem := rfl
@[simp] theorem State.setDcache_irq (s : State) (d : List (Nat × DLine)) : (s.setDcache d).irq = s.irq := rfl
@[simp] theorem State.setDcache_irqNumber (s : State) (d : List (Nat × DLine)) : (s.setDcache d).irqNumber = s.irqNumber := rfl
@[simp] theorem State.setDcache_irqTrace (s : State) (d : List (Nat × DLine)) : (s.setDcache d).irqTrace = s.irqTrace := rfl
@[simp] theorem State.setDcache_freeCtr (s : State) (d : List (Nat × DLine)) : (s.setDcache d).freeCtr = s.freeCtr := rfl

/-! ### setIcache -/

@[simp] theorem State.setIcache_cfg (s : State) (i : List (Nat × ILine)) : (s.setIcache i).cfg = s.cfg := rfl
@[simp] theorem State.setIcache_regs (s : State) (i : List (Nat × ILine)) : (s.setIcache i).regs = s.regs := rfl
@[simp] theorem State.setIcache_pc (s : State) (i : List (Nat × ILine)) : (s.setIcache i).pc = s.pc := rfl
@[simp] theorem State.setIcache_k (s : State) (i : List (Nat × ILine)) : (s.setIcache i).k = s.k := rfl
@[simp] theorem State.setIcache_pfx (s : State) (i : List (Nat × ILine)) : (s.setIcache i).pfx = s.pfx := rfl
@[simp] theorem State.setIcache_iobyp (s : State) (i : List (Nat × ILine)) : (s.setIcache i).iobyp = s.iobyp := rfl
@[simp] theorem State.setIcache_delay (s : State) (i : List (Nat × ILine)) : (s.setIcache i).delay = s.delay := rfl
@[simp] theorem State.setIcache_nopdue (s : State) (i : List (Nat × ILine)) : (s.setIcache i).nopdue = s.nopdue := rfl
@[simp] theorem State.setIcache_status (s : State) (i : List (Nat × ILine)) : (s.setIcache i).status = s.status := rfl
@[simp] theorem State.setIcache_istatus (s : State) (i : List (Nat × ILine)) : (s.setIcache i).istatus = s.istatus := rfl
@[simp] theorem State.setIcache_wvalid (s : State) (i : List (Nat × ILine)) : (s.setIcache i).wvalid = s.wvalid := rfl
@[simp] theorem State.setIcache_dcache (s : State) (i : List (Nat × ILine)) : (s.setIcache i).dcache = s.dcache := rfl
@[simp] theorem State.setIcache_icache (s : State) (i : List (Nat × ILine)) : (s.setIcache i).icache = i := rfl
@[simp] theorem State.setIcache_mem (s : State) (i : List (Nat × ILine)) : (s.setIcache i).mem = s.mem := rfl
@[simp] theorem State.setIcache_irq (s : State) (i : List (Nat × ILine)) : (s.setIcache i).irq = s.irq := rfl
@[simp] theorem State.setIcache_irqNumber (s : State) (i : List (Nat × ILine)) : (s.setIcache i).irqNumber = s.irqNumber := rfl
@[simp] theorem State.setIcache_irqTrace (s : State) (i : List (Nat × ILine)) : (s.setIcache i).irqTrace = s.irqTrace := rfl
@[simp] theorem State.setIcache_freeCtr (s : State) (i : List (Nat × ILine)) : (s.setIcache i).freeCtr = s.freeCtr := rfl

/-! ### setMem -/

@[simp] theorem State.setMem_cfg (s : State) (m : Memory) : (s.setMem m).cfg = s.cfg := rfl
@[simp] theorem State.setMem_regs (s : State) (m : Memory) : (s.setMem m).regs = s.regs := rfl
@[simp] theorem State.setMem_pc (s : State) (m : Memory) : (s.setMem m).pc = s.pc := rfl
@[simp] theorem State.setMem_k (s : State) (m : Memory) : (s.setMem m).k = s.k := rfl
@[simp] theorem State.setMem_pfx (s : State) (m : Memory) : (s.setMem m).pfx = s.pfx := rfl
@[simp] theorem State.setMem_iobyp (s : State) (m : Memory) : (s.setMem m).iobyp = s.iobyp := rfl
@[simp] theorem State.setMem_delay (s : State) (m : Memory) : (s.setMem m).delay = s.delay := rfl
@[simp] theorem State.setMem_nopdue (s : State) (m : Memory) : (s.setMem m).nopdue = s.nopdue := rfl
@[simp] theorem State.setMem_status (s : State) (m : Memory) : (s.setMem m).status = s.status := rfl
@[simp] theorem State.setMem_istatus (s : State) (m : Memory) : (s.setMem m).istatus = s.istatus := rfl
@[simp] theorem State.setMem_wvalid (s : State) (m : Memory) : (s.setMem m).wvalid = s.wvalid := rfl
@[simp] theorem State.setMem_dcache (s : State) (m : Memory) : (s.setMem m).dcache = s.dcache := rfl
@[simp] theorem State.setMem_icache (s : State) (m : Memory) : (s.setMem m).icache = s.icache := rfl
@[simp] theorem State.setMem_mem (s : State) (m : Memory) : (s.setMem m).mem = m := rfl
@[simp] theorem State.setMem_irq (s : State) (m : Memory) : (s.setMem m).irq = s.irq := rfl
@[simp] theorem State.setMem_irqNumber (s : State) (m : Memory) : (s.setMem m).irqNumber = s.irqNumber := rfl
@[simp] theorem State.setMem_irqTrace (s : State) (m : Memory) : (s.setMem m).irqTrace = s.irqTrace := rfl
@[simp] theorem State.setMem_freeCtr (s : State) (m : Memory) : (s.setMem m).freeCtr = s.freeCtr := rfl

/-! ### setNopdue -/

@[simp] theorem State.setNopdue_cfg (s : State) (b : Bool) : (s.setNopdue b).cfg = s.cfg := rfl
@[simp] theorem State.setNopdue_regs (s : State) (b : Bool) : (s.setNopdue b).regs = s.regs := rfl
@[simp] theorem State.setNopdue_pc (s : State) (b : Bool) : (s.setNopdue b).pc = s.pc := rfl
@[simp] theorem State.setNopdue_k (s : State) (b : Bool) : (s.setNopdue b).k = s.k := rfl
@[simp] theorem State.setNopdue_pfx (s : State) (b : Bool) : (s.setNopdue b).pfx = s.pfx := rfl
@[simp] theorem State.setNopdue_iobyp (s : State) (b : Bool) : (s.setNopdue b).iobyp = s.iobyp := rfl
@[simp] theorem State.setNopdue_delay (s : State) (b : Bool) : (s.setNopdue b).delay = s.delay := rfl
@[simp] theorem State.setNopdue_nopdue (s : State) (b : Bool) : (s.setNopdue b).nopdue = b := rfl
@[simp] theorem State.setNopdue_status (s : State) (b : Bool) : (s.setNopdue b).status = s.status := rfl
@[simp] theorem State.setNopdue_istatus (s : State) (b : Bool) : (s.setNopdue b).istatus = s.istatus := rfl
@[simp] theorem State.setNopdue_wvalid (s : State) (b : Bool) : (s.setNopdue b).wvalid = s.wvalid := rfl
@[simp] theorem State.setNopdue_dcache (s : State) (b : Bool) : (s.setNopdue b).dcache = s.dcache := rfl
@[simp] theorem State.setNopdue_icache (s : State) (b : Bool) : (s.setNopdue b).icache = s.icache := rfl
@[simp] theorem State.setNopdue_mem (s : State) (b : Bool) : (s.setNopdue b).mem = s.mem := rfl
@[simp] theorem State.setNopdue_irq (s : State) (b : Bool) : (s.setNopdue b).irq = s.irq := rfl
@[simp] theorem State.setNopdue_irqNumber (s : State) (b : Bool) : (s.setNopdue b).irqNumber = s.irqNumber := rfl
@[simp] theorem State.setNopdue_irqTrace (s : State) (b : Bool) : (s.setNopdue b).irqTrace = s.irqTrace := rfl
@[simp] theorem State.setNopdue_freeCtr (s : State) (b : Bool) : (s.setNopdue b).freeCtr = s.freeCtr := rfl

/-! ### setPfx -/

@[simp] theorem State.setPfx_cfg (s : State) (k : BitVec 11) (p io : Bool) : (s.setPfx k p io).cfg = s.cfg := rfl
@[simp] theorem State.setPfx_regs (s : State) (k : BitVec 11) (p io : Bool) : (s.setPfx k p io).regs = s.regs := rfl
@[simp] theorem State.setPfx_pc (s : State) (k : BitVec 11) (p io : Bool) : (s.setPfx k p io).pc = s.pc := rfl
@[simp] theorem State.setPfx_k (s : State) (k : BitVec 11) (p io : Bool) : (s.setPfx k p io).k = k := rfl
@[simp] theorem State.setPfx_pfx (s : State) (k : BitVec 11) (p io : Bool) : (s.setPfx k p io).pfx = p := rfl
@[simp] theorem State.setPfx_iobyp (s : State) (k : BitVec 11) (p io : Bool) : (s.setPfx k p io).iobyp = io := rfl
@[simp] theorem State.setPfx_delay (s : State) (k : BitVec 11) (p io : Bool) : (s.setPfx k p io).delay = s.delay := rfl
@[simp] theorem State.setPfx_nopdue (s : State) (k : BitVec 11) (p io : Bool) : (s.setPfx k p io).nopdue = s.nopdue := rfl
@[simp] theorem State.setPfx_status (s : State) (k : BitVec 11) (p io : Bool) : (s.setPfx k p io).status = s.status := rfl
@[simp] theorem State.setPfx_istatus (s : State) (k : BitVec 11) (p io : Bool) : (s.setPfx k p io).istatus = s.istatus := rfl
@[simp] theorem State.setPfx_wvalid (s : State) (k : BitVec 11) (p io : Bool) : (s.setPfx k p io).wvalid = s.wvalid := rfl
@[simp] theorem State.setPfx_dcache (s : State) (k : BitVec 11) (p io : Bool) : (s.setPfx k p io).dcache = s.dcache := rfl
@[simp] theorem State.setPfx_icache (s : State) (k : BitVec 11) (p io : Bool) : (s.setPfx k p io).icache = s.icache := rfl
@[simp] theorem State.setPfx_mem (s : State) (k : BitVec 11) (p io : Bool) : (s.setPfx k p io).mem = s.mem := rfl
@[simp] theorem State.setPfx_irq (s : State) (k : BitVec 11) (p io : Bool) : (s.setPfx k p io).irq = s.irq := rfl
@[simp] theorem State.setPfx_irqNumber (s : State) (k : BitVec 11) (p io : Bool) : (s.setPfx k p io).irqNumber = s.irqNumber := rfl
@[simp] theorem State.setPfx_irqTrace (s : State) (k : BitVec 11) (p io : Bool) : (s.setPfx k p io).irqTrace = s.irqTrace := rfl
@[simp] theorem State.setPfx_freeCtr (s : State) (k : BitVec 11) (p io : Bool) : (s.setPfx k p io).freeCtr = s.freeCtr := rfl

/-! ### setPc -/

@[simp] theorem State.setPc_cfg (s : State) (t : Word) (d : Option Word) : (s.setPc t d).cfg = s.cfg := rfl
@[simp] theorem State.setPc_regs (s : State) (t : Word) (d : Option Word) : (s.setPc t d).regs = s.regs := rfl
@[simp] theorem State.setPc_pc (s : State) (t : Word) (d : Option Word) : (s.setPc t d).pc = t := rfl
@[simp] theorem State.setPc_k (s : State) (t : Word) (d : Option Word) : (s.setPc t d).k = s.k := rfl
@[simp] theorem State.setPc_pfx (s : State) (t : Word) (d : Option Word) : (s.setPc t d).pfx = s.pfx := rfl
@[simp] theorem State.setPc_iobyp (s : State) (t : Word) (d : Option Word) : (s.setPc t d).iobyp = s.iobyp := rfl
@[simp] theorem State.setPc_delay (s : State) (t : Word) (d : Option Word) : (s.setPc t d).delay = d := rfl
@[simp] theorem State.setPc_nopdue (s : State) (t : Word) (d : Option Word) : (s.setPc t d).nopdue = s.nopdue := rfl
@[simp] theorem State.setPc_status (s : State) (t : Word) (d : Option Word) : (s.setPc t d).status = s.status := rfl
@[simp] theorem State.setPc_istatus (s : State) (t : Word) (d : Option Word) : (s.setPc t d).istatus = s.istatus := rfl
@[simp] theorem State.setPc_wvalid (s : State) (t : Word) (d : Option Word) : (s.setPc t d).wvalid = s.wvalid := rfl
@[simp] theorem State.setPc_dcache (s : State) (t : Word) (d : Option Word) : (s.setPc t d).dcache = s.dcache := rfl
@[simp] theorem State.setPc_icache (s : State) (t : Word) (d : Option Word) : (s.setPc t d).icache = s.icache := rfl
@[simp] theorem State.setPc_mem (s : State) (t : Word) (d : Option Word) : (s.setPc t d).mem = s.mem := rfl
@[simp] theorem State.setPc_irq (s : State) (t : Word) (d : Option Word) : (s.setPc t d).irq = s.irq := rfl
@[simp] theorem State.setPc_irqNumber (s : State) (t : Word) (d : Option Word) : (s.setPc t d).irqNumber = s.irqNumber := rfl
@[simp] theorem State.setPc_irqTrace (s : State) (t : Word) (d : Option Word) : (s.setPc t d).irqTrace = s.irqTrace := rfl
@[simp] theorem State.setPc_freeCtr (s : State) (t : Word) (d : Option Word) : (s.setPc t d).freeCtr = s.freeCtr := rfl

/-! ### drawFree -/

@[simp] theorem State.drawFree_cfg (s : State) : (s.drawFree).cfg = s.cfg := rfl
@[simp] theorem State.drawFree_regs (s : State) : (s.drawFree).regs = s.regs := rfl
@[simp] theorem State.drawFree_pc (s : State) : (s.drawFree).pc = s.pc := rfl
@[simp] theorem State.drawFree_k (s : State) : (s.drawFree).k = s.k := rfl
@[simp] theorem State.drawFree_pfx (s : State) : (s.drawFree).pfx = s.pfx := rfl
@[simp] theorem State.drawFree_iobyp (s : State) : (s.drawFree).iobyp = s.iobyp := rfl
@[simp] theorem State.drawFree_delay (s : State) : (s.drawFree).delay = s.delay := rfl
@[simp] theorem State.drawFree_nopdue (s : State) : (s.drawFree).nopdue = s.nopdue := rfl
@[simp] theorem State.drawFree_status (s : State) : (s.drawFree).status = s.status := rfl
@[simp] theorem State.drawFree_istatus (s : State) : (s.drawFree).istatus = s.istatus := rfl
@[simp] theorem State.drawFree_wvalid (s : State) : (s.drawFree).wvalid = s.wvalid := rfl
@[simp] theorem State.drawFree_dcache (s : State) : (s.drawFree).dcache = s.dcache := rfl
@[simp] theorem State.drawFree_icache (s : State) : (s.drawFree).icache = s.icache := rfl
@[simp] theorem State.drawFree_mem (s : State) : (s.drawFree).mem = s.mem := rfl
@[simp] theorem State.drawFree_irq (s : State) : (s.drawFree).irq = s.irq := rfl
@[simp] theorem State.drawFree_irqNumber (s : State) : (s.drawFree).irqNumber = s.irqNumber := rfl
@[simp] theorem State.drawFree_irqTrace (s : State) : (s.drawFree).irqTrace = s.irqTrace := rfl
@[simp] theorem State.drawFree_freeCtr (s : State) : (s.drawFree).freeCtr = s.freeCtr + 1 := rfl

/-! ### setInputs -/

@[simp] theorem State.setInputs_cfg (s : State) (q : Bool) (n : BitVec 6) (t : List IrqSample) : (s.setInputs q n t).cfg = s.cfg := rfl
@[simp] theorem State.setInputs_regs (s : State) (q : Bool) (n : BitVec 6) (t : List IrqSample) : (s.setInputs q n t).regs = s.regs := rfl
@[simp] theorem State.setInputs_pc (s : State) (q : Bool) (n : BitVec 6) (t : List IrqSample) : (s.setInputs q n t).pc = s.pc := rfl
@[simp] theorem State.setInputs_k (s : State) (q : Bool) (n : BitVec 6) (t : List IrqSample) : (s.setInputs q n t).k = s.k := rfl
@[simp] theorem State.setInputs_pfx (s : State) (q : Bool) (n : BitVec 6) (t : List IrqSample) : (s.setInputs q n t).pfx = s.pfx := rfl
@[simp] theorem State.setInputs_iobyp (s : State) (q : Bool) (n : BitVec 6) (t : List IrqSample) : (s.setInputs q n t).iobyp = s.iobyp := rfl
@[simp] theorem State.setInputs_delay (s : State) (q : Bool) (n : BitVec 6) (t : List IrqSample) : (s.setInputs q n t).delay = s.delay := rfl
@[simp] theorem State.setInputs_nopdue (s : State) (q : Bool) (n : BitVec 6) (t : List IrqSample) : (s.setInputs q n t).nopdue = s.nopdue := rfl
@[simp] theorem State.setInputs_status (s : State) (q : Bool) (n : BitVec 6) (t : List IrqSample) : (s.setInputs q n t).status = s.status := rfl
@[simp] theorem State.setInputs_istatus (s : State) (q : Bool) (n : BitVec 6) (t : List IrqSample) : (s.setInputs q n t).istatus = s.istatus := rfl
@[simp] theorem State.setInputs_wvalid (s : State) (q : Bool) (n : BitVec 6) (t : List IrqSample) : (s.setInputs q n t).wvalid = s.wvalid := rfl
@[simp] theorem State.setInputs_dcache (s : State) (q : Bool) (n : BitVec 6) (t : List IrqSample) : (s.setInputs q n t).dcache = s.dcache := rfl
@[simp] theorem State.setInputs_icache (s : State) (q : Bool) (n : BitVec 6) (t : List IrqSample) : (s.setInputs q n t).icache = s.icache := rfl
@[simp] theorem State.setInputs_mem (s : State) (q : Bool) (n : BitVec 6) (t : List IrqSample) : (s.setInputs q n t).mem = s.mem := rfl
@[simp] theorem State.setInputs_irq (s : State) (q : Bool) (n : BitVec 6) (t : List IrqSample) : (s.setInputs q n t).irq = q := rfl
@[simp] theorem State.setInputs_irqNumber (s : State) (q : Bool) (n : BitVec 6) (t : List IrqSample) : (s.setInputs q n t).irqNumber = n := rfl
@[simp] theorem State.setInputs_irqTrace (s : State) (q : Bool) (n : BitVec 6) (t : List IrqSample) : (s.setInputs q n t).irqTrace = t := rfl
@[simp] theorem State.setInputs_freeCtr (s : State) (q : Bool) (n : BitVec 6) (t : List IrqSample) : (s.setInputs q n t).freeCtr = s.freeCtr := rfl

/-! ### goto -/

@[simp] theorem State.goto_cfg (s : State) (t : Word) : (s.goto t).cfg = s.cfg := rfl
@[simp] theorem State.goto_regs (s : State) (t : Word) : (s.goto t).regs = s.regs := rfl
@[simp] theorem State.goto_pc (s : State) (t : Word) : (s.goto t).pc = t := rfl
@[simp] theorem State.goto_k (s : State) (t : Word) : (s.goto t).k = 0#11 := rfl
@[simp] theorem State.goto_pfx (s : State) (t : Word) : (s.goto t).pfx = false := rfl
@[simp] theorem State.goto_iobyp (s : State) (t : Word) : (s.goto t).iobyp = false := rfl
@[simp] theorem State.goto_delay (s : State) (t : Word) : (s.goto t).delay = none := rfl
@[simp] theorem State.goto_nopdue (s : State) (t : Word) : (s.goto t).nopdue = s.nopdue := rfl
@[simp] theorem State.goto_status (s : State) (t : Word) : (s.goto t).status = s.status := rfl
@[simp] theorem State.goto_istatus (s : State) (t : Word) : (s.goto t).istatus = s.istatus := rfl
@[simp] theorem State.goto_wvalid (s : State) (t : Word) : (s.goto t).wvalid = s.wvalid := rfl
@[simp] theorem State.goto_dcache (s : State) (t : Word) : (s.goto t).dcache = s.dcache := rfl
@[simp] theorem State.goto_icache (s : State) (t : Word) : (s.goto t).icache = s.icache := rfl
@[simp] theorem State.goto_mem (s : State) (t : Word) : (s.goto t).mem = s.mem := rfl
@[simp] theorem State.goto_irq (s : State) (t : Word) : (s.goto t).irq = s.irq := rfl
@[simp] theorem State.goto_irqNumber (s : State) (t : Word) : (s.goto t).irqNumber = s.irqNumber := rfl
@[simp] theorem State.goto_irqTrace (s : State) (t : Word) : (s.goto t).irqTrace = s.irqTrace := rfl
@[simp] theorem State.goto_freeCtr (s : State) (t : Word) : (s.goto t).freeCtr = s.freeCtr := rfl

/-! ### retire -/

@[simp] theorem State.retire_cfg (s : State) : (s.retire).cfg = s.cfg := rfl
@[simp] theorem State.retire_regs (s : State) : (s.retire).regs = s.regs := rfl
@[simp] theorem State.retire_pc (s : State) : (s.retire).pc = s.nextPc := rfl
@[simp] theorem State.retire_k (s : State) : (s.retire).k = 0#11 := rfl
@[simp] theorem State.retire_pfx (s : State) : (s.retire).pfx = false := rfl
@[simp] theorem State.retire_iobyp (s : State) : (s.retire).iobyp = false := rfl
@[simp] theorem State.retire_delay (s : State) : (s.retire).delay = none := rfl
@[simp] theorem State.retire_nopdue (s : State) : (s.retire).nopdue = s.nopdue := rfl
@[simp] theorem State.retire_status (s : State) : (s.retire).status = s.status := rfl
@[simp] theorem State.retire_istatus (s : State) : (s.retire).istatus = s.istatus := rfl
@[simp] theorem State.retire_wvalid (s : State) : (s.retire).wvalid = s.wvalid := rfl
@[simp] theorem State.retire_dcache (s : State) : (s.retire).dcache = s.dcache := rfl
@[simp] theorem State.retire_icache (s : State) : (s.retire).icache = s.icache := rfl
@[simp] theorem State.retire_mem (s : State) : (s.retire).mem = s.mem := rfl
@[simp] theorem State.retire_irq (s : State) : (s.retire).irq = s.irq := rfl
@[simp] theorem State.retire_irqNumber (s : State) : (s.retire).irqNumber = s.irqNumber := rfl
@[simp] theorem State.retire_irqTrace (s : State) : (s.retire).irqTrace = s.irqTrace := rfl
@[simp] theorem State.retire_freeCtr (s : State) : (s.retire).freeCtr = s.freeCtr := rfl

/-! ### branchTo -/

@[simp] theorem State.branchTo_cfg (s : State) (t : Word) : (s.branchTo t).cfg = s.cfg := rfl
@[simp] theorem State.branchTo_regs (s : State) (t : Word) : (s.branchTo t).regs = s.regs := rfl
@[simp] theorem State.branchTo_pc (s : State) (t : Word) : (s.branchTo t).pc = s.pc + 2#32 := rfl
@[simp] theorem State.branchTo_k (s : State) (t : Word) : (s.branchTo t).k = 0#11 := rfl
@[simp] theorem State.branchTo_pfx (s : State) (t : Word) : (s.branchTo t).pfx = false := rfl
@[simp] theorem State.branchTo_iobyp (s : State) (t : Word) : (s.branchTo t).iobyp = false := rfl
@[simp] theorem State.branchTo_delay (s : State) (t : Word) : (s.branchTo t).delay = some t := rfl
@[simp] theorem State.branchTo_nopdue (s : State) (t : Word) : (s.branchTo t).nopdue = s.nopdue := rfl
@[simp] theorem State.branchTo_status (s : State) (t : Word) : (s.branchTo t).status = s.status := rfl
@[simp] theorem State.branchTo_istatus (s : State) (t : Word) : (s.branchTo t).istatus = s.istatus := rfl
@[simp] theorem State.branchTo_wvalid (s : State) (t : Word) : (s.branchTo t).wvalid = s.wvalid := rfl
@[simp] theorem State.branchTo_dcache (s : State) (t : Word) : (s.branchTo t).dcache = s.dcache := rfl
@[simp] theorem State.branchTo_icache (s : State) (t : Word) : (s.branchTo t).icache = s.icache := rfl
@[simp] theorem State.branchTo_mem (s : State) (t : Word) : (s.branchTo t).mem = s.mem := rfl
@[simp] theorem State.branchTo_irq (s : State) (t : Word) : (s.branchTo t).irq = s.irq := rfl
@[simp] theorem State.branchTo_irqNumber (s : State) (t : Word) : (s.branchTo t).irqNumber = s.irqNumber := rfl
@[simp] theorem State.branchTo_irqTrace (s : State) (t : Word) : (s.branchTo t).irqTrace = s.irqTrace := rfl
@[simp] theorem State.branchTo_freeCtr (s : State) (t : Word) : (s.branchTo t).freeCtr = s.freeCtr := rfl

/-! ### loadPrefix -/

@[simp] theorem State.loadPrefix_cfg (s : State) (imm : BitVec 11) (io : Bool) : (s.loadPrefix imm io).cfg = s.cfg := rfl
@[simp] theorem State.loadPrefix_regs (s : State) (imm : BitVec 11) (io : Bool) : (s.loadPrefix imm io).regs = s.regs := rfl
@[simp] theorem State.loadPrefix_pc (s : State) (imm : BitVec 11) (io : Bool) : (s.loadPrefix imm io).pc = s.nextPc := rfl
@[simp] theorem State.loadPrefix_k (s : State) (imm : BitVec 11) (io : Bool) : (s.loadPrefix imm io).k = imm := rfl
@[simp] theorem State.loadPrefix_pfx (s : State) (imm : BitVec 11) (io : Bool) : (s.loadPrefix imm io).pfx = true := rfl
@[simp] theorem State.loadPrefix_iobyp (s : State) (imm : BitVec 11) (io : Bool) : (s.loadPrefix imm io).iobyp = io := rfl
@[simp] theorem State.loadPrefix_delay (s : State) (imm : BitVec 11) (io : Bool) : (s.loadPrefix imm io).delay = none := rfl
@[simp] theorem State.loadPrefix_nopdue (s : State) (imm : BitVec 11) (io : Bool) : (s.loadPrefix imm io).nopdue = s.nopdue := rfl
@[simp] theorem State.loadPrefix_status (s : State) (imm : BitVec 11) (io : Bool) : (s.loadPrefix imm io).status = s.status := rfl
@[simp] theorem State.loadPrefix_istatus (s : State) (imm : BitVec 11) (io : Bool) : (s.loadPrefix imm io).istatus = s.istatus := rfl
@[simp] theorem State.loadPrefix_wvalid (s : State) (imm : BitVec 11) (io : Bool) : (s.loadPrefix imm io).wvalid = s.wvalid := rfl
@[simp] theorem State.loadPrefix_dcache (s : State) (imm : BitVec 11) (io : Bool) : (s.loadPrefix imm io).dcache = s.dcache := rfl
@[simp] theorem State.loadPrefix_icache (s : State) (imm : BitVec 11) (io : Bool) : (s.loadPrefix imm io).icache = s.icache := rfl
@[simp] theorem State.loadPrefix_mem (s : State) (imm : BitVec 11) (io : Bool) : (s.loadPrefix imm io).mem = s.mem := rfl
@[simp] theorem State.loadPrefix_irq (s : State) (imm : BitVec 11) (io : Bool) : (s.loadPrefix imm io).irq = s.irq := rfl
@[simp] theorem State.loadPrefix_irqNumber (s : State) (imm : BitVec 11) (io : Bool) : (s.loadPrefix imm io).irqNumber = s.irqNumber := rfl
@[simp] theorem State.loadPrefix_irqTrace (s : State) (imm : BitVec 11) (io : Bool) : (s.loadPrefix imm io).irqTrace = s.irqTrace := rfl
@[simp] theorem State.loadPrefix_freeCtr (s : State) (imm : BitVec 11) (io : Bool) : (s.loadPrefix imm io).freeCtr = s.freeCtr := rfl

/-! ### setDline -/

@[simp] theorem State.setDline_cfg (s : State) (a : Word) (l : DLine) : (s.setDline a l).cfg = s.cfg := rfl
@[simp] theorem State.setDline_regs (s : State) (a : Word) (l : DLine) : (s.setDline a l).regs = s.regs := rfl
@[simp] theorem State.setDline_pc (s : State) (a : Word) (l : DLine) : (s.setDline a l).pc = s.pc := rfl
@[simp] theorem State.setDline_k (s : State) (a : Word) (l : DLine) : (s.setDline a l).k = s.k := rfl
@[simp] theorem State.setDline_pfx (s : State) (a : Word) (l : DLine) : (s.setDline a l).pfx = s.pfx := rfl
@[simp] theorem State.setDline_iobyp (s : State) (a : Word) (l : DLine) : (s.setDline a l).iobyp = s.iobyp := rfl
@[simp] theorem State.setDline_delay (s : State) (a : Word) (l : DLine) : (s.setDline a l).delay = s.delay := rfl
@[simp] theorem State.setDline_nopdue (s : State) (a : Word) (l : DLine) : (s.setDline a l).nopdue = s.nopdue := rfl
@[simp] theorem State.setDline_status (s : State) (a : Word) (l : DLine) : (s.setDline a l).status = s.status := rfl
@[simp] theorem State.setDline_istatus (s : State) (a : Word) (l : DLine) : (s.setDline a l).istatus = s.istatus := rfl
@[simp] theorem State.setDline_wvalid (s : State) (a : Word) (l : DLine) : (s.setDline a l).wvalid = s.wvalid := rfl
@[simp] theorem State.setDline_dcache (s : State) (a : Word) (l : DLine) : (s.setDline a l).dcache = sparseSet .unknown s.dcache (dindex s.cfg a) l := rfl
@[simp] theorem State.setDline_icache (s : State) (a : Word) (l : DLine) : (s.setDline a l).icache = s.icache := rfl
@[simp] theorem State.setDline_mem (s : State) (a : Word) (l : DLine) : (s.setDline a l).mem = s.mem := rfl
@[simp] theorem State.setDline_irq (s : State) (a : Word) (l : DLine) : (s.setDline a l).irq = s.irq := rfl
@[simp] theorem State.setDline_irqNumber (s : State) (a : Word) (l : DLine) : (s.setDline a l).irqNumber = s.irqNumber := rfl
@[simp] theorem State.setDline_irqTrace (s : State) (a : Word) (l : DLine) : (s.setDline a l).irqTrace = s.irqTrace := rfl
@[simp] theorem State.setDline_freeCtr (s : State) (a : Word) (l : DLine) : (s.setDline a l).freeCtr = s.freeCtr := rfl

/-! ### setIline -/

@[simp] theorem State.setIline_cfg (s : State) (a : Word) (l : ILine) : (s.setIline a l).cfg = s.cfg := rfl
@[simp] theorem State.setIline_regs (s : State) (a : Word) (l : ILine) : (s.setIline a l).regs = s.regs := rfl
@[simp] theorem State.setIline_pc (s : State) (a : Word) (l : ILine) : (s.setIline a l).pc = s.pc := rfl
@[simp] theorem State.setIline_k (s : State) (a : Word) (l : ILine) : (s.setIline a l).k = s.k := rfl
@[simp] theorem State.setIline_pfx (s : State) (a : Word) (l : ILine) : (s.setIline a l).pfx = s.pfx := rfl
@[simp] theorem State.setIline_iobyp (s : State) (a : Word) (l : ILine) : (s.setIline a l).iobyp = s.iobyp := rfl
@[simp] theorem State.setIline_delay (s : State) (a : Word) (l : ILine) : (s.setIline a l).delay = s.delay := rfl
@[simp] theorem State.setIline_nopdue (s : State) (a : Word) (l : ILine) : (s.setIline a l).nopdue = s.nopdue := rfl
@[simp] theorem State.setIline_status (s : State) (a : Word) (l : ILine) : (s.setIline a l).status = s.status := rfl
@[simp] theorem State.setIline_istatus (s : State) (a : Word) (l : ILine) : (s.setIline a l).istatus = s.istatus := rfl
@[simp] theorem State.setIline_wvalid (s : State) (a : Word) (l : ILine) : (s.setIline a l).wvalid = s.wvalid := rfl
@[simp] theorem State.setIline_dcache (s : State) (a : Word) (l : ILine) : (s.setIline a l).dcache = s.dcache := rfl
@[simp] theorem State.setIline_icache (s : State) (a : Word) (l : ILine) : (s.setIline a l).icache = sparseSet .unknown s.icache (iindex s.cfg a) l := rfl
@[simp] theorem State.setIline_mem (s : State) (a : Word) (l : ILine) : (s.setIline a l).mem = s.mem := rfl
@[simp] theorem State.setIline_irq (s : State) (a : Word) (l : ILine) : (s.setIline a l).irq = s.irq := rfl
@[simp] theorem State.setIline_irqNumber (s : State) (a : Word) (l : ILine) : (s.setIline a l).irqNumber = s.irqNumber := rfl
@[simp] theorem State.setIline_irqTrace (s : State) (a : Word) (l : ILine) : (s.setIline a l).irqTrace = s.irqTrace := rfl
@[simp] theorem State.setIline_freeCtr (s : State) (a : Word) (l : ILine) : (s.setIline a l).freeCtr = s.freeCtr := rfl

/-! ### The fields of STATUS -/

@[simp] theorem Status.withFlags_dc (st : Status) (n v z c : Bool) : (st.withFlags n v z c).dc = st.dc := rfl
@[simp] theorem Status.withFlags_ic (st : Status) (n v z c : Bool) : (st.withFlags n v z c).ic = st.ic := rfl
@[simp] theorem Status.withFlags_ie (st : Status) (n v z c : Bool) : (st.withFlags n v z c).ie = st.ie := rfl
@[simp] theorem Status.withFlags_ipri (st : Status) (n v z c : Bool) : (st.withFlags n v z c).ipri = st.ipri := rfl
@[simp] theorem Status.withFlags_cwp (st : Status) (n v z c : Bool) : (st.withFlags n v z c).cwp = st.cwp := rfl
@[simp] theorem Status.withFlags_n (st : Status) (n v z c : Bool) : (st.withFlags n v z c).n = n := rfl
@[simp] theorem Status.withFlags_v (st : Status) (n v z c : Bool) : (st.withFlags n v z c).v = v := rfl
@[simp] theorem Status.withFlags_z (st : Status) (n v z c : Bool) : (st.withFlags n v z c).z = z := rfl
@[simp] theorem Status.withFlags_c (st : Status) (n v z c : Bool) : (st.withFlags n v z c).c = c := rfl
@[simp] theorem Status.withCarry_dc (st : Status) (c : Bool) : (st.withCarry c).dc = st.dc := rfl
@[simp] theorem Status.withCarry_ic (st : Status) (c : Bool) : (st.withCarry c).ic = st.ic := rfl
@[simp] theorem Status.withCarry_ie (st : Status) (c : Bool) : (st.withCarry c).ie = st.ie := rfl
@[simp] theorem Status.withCarry_ipri (st : Status) (c : Bool) : (st.withCarry c).ipri = st.ipri := rfl
@[simp] theorem Status.withCarry_cwp (st : Status) (c : Bool) : (st.withCarry c).cwp = st.cwp := rfl
@[simp] theorem Status.withCarry_n (st : Status) (c : Bool) : (st.withCarry c).n = st.n := rfl
@[simp] theorem Status.withCarry_v (st : Status) (c : Bool) : (st.withCarry c).v = st.v := rfl
@[simp] theorem Status.withCarry_z (st : Status) (c : Bool) : (st.withCarry c).z = st.z := rfl
@[simp] theorem Status.withCarry_c (st : Status) (c : Bool) : (st.withCarry c).c = c := rfl
@[simp] theorem Status.withCwp_dc (st : Status) (w : BitVec 5) : (st.withCwp w).dc = st.dc := rfl
@[simp] theorem Status.withCwp_ic (st : Status) (w : BitVec 5) : (st.withCwp w).ic = st.ic := rfl
@[simp] theorem Status.withCwp_ie (st : Status) (w : BitVec 5) : (st.withCwp w).ie = st.ie := rfl
@[simp] theorem Status.withCwp_ipri (st : Status) (w : BitVec 5) : (st.withCwp w).ipri = st.ipri := rfl
@[simp] theorem Status.withCwp_cwp (st : Status) (w : BitVec 5) : (st.withCwp w).cwp = w := rfl
@[simp] theorem Status.withCwp_n (st : Status) (w : BitVec 5) : (st.withCwp w).n = st.n := rfl
@[simp] theorem Status.withCwp_v (st : Status) (w : BitVec 5) : (st.withCwp w).v = st.v := rfl
@[simp] theorem Status.withCwp_z (st : Status) (w : BitVec 5) : (st.withCwp w).z = st.z := rfl
@[simp] theorem Status.withCwp_c (st : Status) (w : BitVec 5) : (st.withCwp w).c = st.c := rfl
@[simp] theorem Status.logicFlags_dc (st : Status) (r : Word) : (st.logicFlags r).dc = st.dc := rfl
@[simp] theorem Status.logicFlags_ic (st : Status) (r : Word) : (st.logicFlags r).ic = st.ic := rfl
@[simp] theorem Status.logicFlags_ie (st : Status) (r : Word) : (st.logicFlags r).ie = st.ie := rfl
@[simp] theorem Status.logicFlags_ipri (st : Status) (r : Word) : (st.logicFlags r).ipri = st.ipri := rfl
@[simp] theorem Status.logicFlags_cwp (st : Status) (r : Word) : (st.logicFlags r).cwp = st.cwp := rfl
@[simp] theorem Status.logicFlags_n (st : Status) (r : Word) : (st.logicFlags r).n = r.msb := rfl
@[simp] theorem Status.logicFlags_v (st : Status) (r : Word) : (st.logicFlags r).v = st.v := rfl
@[simp] theorem Status.logicFlags_z (st : Status) (r : Word) : (st.logicFlags r).z = (r == 0#32) := rfl
@[simp] theorem Status.logicFlags_c (st : Status) (r : Word) : (st.logicFlags r).c = st.c := rfl
@[simp] theorem Status.addFlags_dc (st : Status) (a b : Word) : (st.addFlags a b).dc = st.dc := rfl
@[simp] theorem Status.addFlags_ic (st : Status) (a b : Word) : (st.addFlags a b).ic = st.ic := rfl
@[simp] theorem Status.addFlags_ie (st : Status) (a b : Word) : (st.addFlags a b).ie = st.ie := rfl
@[simp] theorem Status.addFlags_ipri (st : Status) (a b : Word) : (st.addFlags a b).ipri = st.ipri := rfl
@[simp] theorem Status.addFlags_cwp (st : Status) (a b : Word) : (st.addFlags a b).cwp = st.cwp := rfl
@[simp] theorem Status.addFlags_n (st : Status) (a b : Word) : (st.addFlags a b).n = (a + b).msb := rfl
@[simp] theorem Status.addFlags_v (st : Status) (a b : Word) : (st.addFlags a b).v = addOverflow a b := rfl
@[simp] theorem Status.addFlags_z (st : Status) (a b : Word) : (st.addFlags a b).z = (a + b == 0#32) := rfl
@[simp] theorem Status.addFlags_c (st : Status) (a b : Word) : (st.addFlags a b).c = addCarry a b := rfl
@[simp] theorem Status.subFlags_dc (st : Status) (a b : Word) : (st.subFlags a b).dc = st.dc := rfl
@[simp] theorem Status.subFlags_ic (st : Status) (a b : Word) : (st.subFlags a b).ic = st.ic := rfl
@[simp] theorem Status.subFlags_ie (st : Status) (a b : Word) : (st.subFlags a b).ie = st.ie := rfl
@[simp] theorem Status.subFlags_ipri (st : Status) (a b : Word) : (st.subFlags a b).ipri = st.ipri := rfl
@[simp] theorem Status.subFlags_cwp (st : Status) (a b : Word) : (st.subFlags a b).cwp = st.cwp := rfl
@[simp] theorem Status.subFlags_n (st : Status) (a b : Word) : (st.subFlags a b).n = (a - b).msb := rfl
@[simp] theorem Status.subFlags_v (st : Status) (a b : Word) : (st.subFlags a b).v = subOverflow a b := rfl
@[simp] theorem Status.subFlags_z (st : Status) (a b : Word) : (st.subFlags a b).z = (a - b == 0#32) := rfl
@[simp] theorem Status.subFlags_c (st : Status) (a b : Word) : (st.subFlags a b).c = subBorrow a b := rfl
@[simp] theorem Status.entered_dc (st : Status) (m : BitVec 6) (dec : Bool) : (st.entered m dec).dc = st.dc := rfl
@[simp] theorem Status.entered_ic (st : Status) (m : BitVec 6) (dec : Bool) : (st.entered m dec).ic = st.ic := rfl
@[simp] theorem Status.entered_ie (st : Status) (m : BitVec 6) (dec : Bool) : (st.entered m dec).ie = false := rfl
@[simp] theorem Status.entered_ipri (st : Status) (m : BitVec 6) (dec : Bool) : (st.entered m dec).ipri = m := rfl
@[simp] theorem Status.entered_cwp (st : Status) (m : BitVec 6) (dec : Bool) : (st.entered m dec).cwp = if dec then st.cwp - 1#5 else st.cwp := rfl
@[simp] theorem Status.entered_n (st : Status) (m : BitVec 6) (dec : Bool) : (st.entered m dec).n = st.n := rfl
@[simp] theorem Status.entered_v (st : Status) (m : BitVec 6) (dec : Bool) : (st.entered m dec).v = st.v := rfl
@[simp] theorem Status.entered_z (st : Status) (m : BitVec 6) (dec : Bool) : (st.entered m dec).z = st.z := rfl
@[simp] theorem Status.entered_c (st : Status) (m : BitVec 6) (dec : Bool) : (st.entered m dec).c = st.c := rfl
@[simp] theorem Status.present_dc (st : Status) (c : Config) : (st.present c).dc = (st.dc && c.hasDCache) := rfl
@[simp] theorem Status.present_ic (st : Status) (c : Config) : (st.present c).ic = (st.ic && c.hasICache) := rfl
@[simp] theorem Status.present_ie (st : Status) (c : Config) : (st.present c).ie = st.ie := rfl
@[simp] theorem Status.present_ipri (st : Status) (c : Config) : (st.present c).ipri = st.ipri := rfl
@[simp] theorem Status.present_cwp (st : Status) (c : Config) : (st.present c).cwp = st.cwp := rfl
@[simp] theorem Status.present_n (st : Status) (c : Config) : (st.present c).n = st.n := rfl
@[simp] theorem Status.present_v (st : Status) (c : Config) : (st.present c).v = st.v := rfl
@[simp] theorem Status.present_z (st : Status) (c : Config) : (st.present c).z = st.z := rfl
@[simp] theorem Status.present_c (st : Status) (c : Config) : (st.present c).c = st.c := rfl

end Sys2Proof.Machine
end

