-- ==== Sys2Proof/Laws/Ops.lean ====
section
/-! SUPPORT. What each shared operation can do, said once: if it answers with a state, that state is this one. Proofs
cite these and do not unfold the operations. -/

namespace Sys2Proof.Machine

/-! ## Computations that may fault -/

@[simp] theorem ok_bind {α β : Type} (a : α) (f : α → Except Fault β) : (Except.ok a >>= f) = f a := rfl

@[simp] theorem error_bind {α β : Type} (e : Fault) (f : α → Except Fault β) :
    ((Except.error e : Except Fault α) >>= f) = .error e := rfl

/-- A chain ends in a result exactly where both parts do. -/
theorem bind_ok {α β : Type} {x : Except Fault α} {f : α → Except Fault β} {b : β} :
    (x >>= f) = .ok b ↔ ∃ a, x = .ok a ∧ f a = .ok b := by
  cases x <;> simp

@[simp] theorem finish_ok (s : State) : finish (.ok s) = .next s := rfl
@[simp] theorem finish_error (f : Fault) : finish (.error f) = .fault f := rfl

theorem finish_next {x : Except Fault State} {t : State} : finish x = .next t ↔ x = .ok t := by
  cases x <;> simp [finish]

theorem finish_not_refused {x : Except Fault State} {r : Refusal} : finish x ≠ .refused r := by
  cases x <;> simp [finish]

/-! ## General registers -/

theorem readReg_iff {s : State} {r : RegNum} {v : Word} :
    s.readReg r = .ok v ↔ s.regs[phys s.status.cwp r]? = some v := by
  unfold State.readReg
  cases h : s.regs[phys s.status.cwp r]? <;> simp

theorem readReg_lt {s : State} {r : RegNum} {v : Word} (h : s.readReg r = .ok v) :
    phys s.status.cwp r < s.regs.length := by
  rw [readReg_iff] at h
  exact (List.getElem?_eq_some_iff.mp h).1

theorem readReg_error {s : State} {r : RegNum} (h : s.regs.length ≤ phys s.status.cwp r) :
    s.readReg r = .error .registerFileRange := by
  simp [State.readReg, List.getElem?_eq_none h]

theorem writeReg_of_lt {s : State} {r : RegNum} (v : Word) (h : phys s.status.cwp r < s.regs.length) :
    s.writeReg r v = .ok (s.setRegs (s.regs.set (phys s.status.cwp r) v)) := by
  simp [State.writeReg, h]

theorem writeReg_error {s : State} {r : RegNum} (v : Word) (h : s.regs.length ≤ phys s.status.cwp r) :
    s.writeReg r v = .error .registerFileRange := by
  simp [State.writeReg, Nat.not_lt.mpr h]

theorem writeReg_ok {s t : State} {r : RegNum} {v : Word} (h : s.writeReg r v = .ok t) :
    phys s.status.cwp r < s.regs.length ∧ t = s.setRegs (s.regs.set (phys s.status.cwp r) v) := by
  unfold State.writeReg at h
  split at h
  · exact ⟨‹_›, by simpa using h.symm⟩
  · cases h

/-! ## Register operations -/

theorem update_of_read {s : State} {a : RegNum} {x : Word} (f : Word → Word) (h : s.readReg a = .ok x) :
    s.update a f = .ok (s.setRegs (s.regs.set (phys s.status.cwp a) (f x))) := by
  simp [State.update, h, writeReg_of_lt _ (readReg_lt h)]

theorem update_ok {s t : State} {a : RegNum} {f : Word → Word} (h : s.update a f = .ok t) :
    ∃ x, s.readReg a = .ok x ∧ t = s.setRegs (s.regs.set (phys s.status.cwp a) (f x)) := by
  obtain ⟨x, hx, h⟩ := bind_ok.mp h
  exact ⟨x, hx, (writeReg_ok h).2⟩

theorem combine_of_read {s : State} {a b : RegNum} {x y : Word} (f : Word → Word → Word) (ha : s.readReg a = .ok x)
    (hb : s.readReg b = .ok y) : s.combine a b f = .ok (s.setRegs (s.regs.set (phys s.status.cwp a) (f x y))) := by
  simp [State.combine, ha, hb, writeReg_of_lt _ (readReg_lt ha)]

theorem combine_ok {s t : State} {a b : RegNum} {f : Word → Word → Word} (h : s.combine a b f = .ok t) :
    ∃ x y, s.readReg a = .ok x ∧ s.readReg b = .ok y ∧ t = s.setRegs (s.regs.set (phys s.status.cwp a) (f x y)) := by
  obtain ⟨x, hx, h⟩ := bind_ok.mp h
  obtain ⟨y, hy, h⟩ := bind_ok.mp h
  exact ⟨x, y, hx, hy, (writeReg_ok h).2⟩

theorem addTo_of_read {s : State} {a : RegNum} {x : Word} (y : Word) (h : s.readReg a = .ok x) :
    s.addTo a y =
      .ok ((s.setRegs (s.regs.set (phys s.status.cwp a) (x + y))).setStatus (s.status.addFlags x y)) := by
  simp [State.addTo, h, writeReg_of_lt _ (readReg_lt h)]

theorem addTo_ok {s t : State} {a : RegNum} {y : Word} (h : s.addTo a y = .ok t) :
    ∃ x, s.readReg a = .ok x ∧
      t = (s.setRegs (s.regs.set (phys s.status.cwp a) (x + y))).setStatus (s.status.addFlags x y) := by
  obtain ⟨x, hx, -⟩ := bind_ok.mp h
  rw [addTo_of_read y hx] at h
  exact ⟨x, hx, by simpa using h.symm⟩

theorem subFrom_of_read {s : State} {a : RegNum} {x : Word} (y : Word) (h : s.readReg a = .ok x) :
    s.subFrom a y =
      .ok ((s.setRegs (s.regs.set (phys s.status.cwp a) (x - y))).setStatus (s.status.subFlags x y)) := by
  simp [State.subFrom, h, writeReg_of_lt _ (readReg_lt h)]

theorem subFrom_ok {s t : State} {a : RegNum} {y : Word} (h : s.subFrom a y = .ok t) :
    ∃ x, s.readReg a = .ok x ∧
      t = (s.setRegs (s.regs.set (phys s.status.cwp a) (x - y))).setStatus (s.status.subFlags x y) := by
  obtain ⟨x, hx, -⟩ := bind_ok.mp h
  rw [subFrom_of_read y hx] at h
  exact ⟨x, hx, by simpa using h.symm⟩

theorem compareWith_of_read {s : State} {a : RegNum} {x : Word} (y : Word) (h : s.readReg a = .ok x) :
    s.compareWith a y = .ok (s.setStatus (s.status.subFlags x y)) := by
  simp [State.compareWith, h]

theorem compareWith_ok {s t : State} {a : RegNum} {y : Word} (h : s.compareWith a y = .ok t) :
    ∃ x, s.readReg a = .ok x ∧ t = s.setStatus (s.status.subFlags x y) := by
  obtain ⟨x, hx, h⟩ := bind_ok.mp h
  exact ⟨x, hx, by simpa using h.symm⟩

theorem logicOperand_register {s : State} (b : RegNum) (h : s.pfx = false) : s.logicOperand b = s.readReg b := by
  simp [State.logicOperand, h]

theorem logicOperand_prefixed {s : State} (b : RegNum) (h : s.pfx = true) :
    s.logicOperand b = .ok (immOperand s.k b) := by
  simp [State.logicOperand, h]

theorem logicInto_of_read {s : State} {a b : RegNum} {x y : Word} (f : Word → Word → Word) (ha : s.readReg a = .ok x)
    (hb : s.logicOperand b = .ok y) :
    s.logicInto a b f =
      .ok ((s.setRegs (s.regs.set (phys s.status.cwp a) (f x y))).setStatus (s.status.logicFlags (f x y))) := by
  simp [State.logicInto, ha, hb, writeReg_of_lt _ (readReg_lt ha)]

theorem logicInto_ok {s t : State} {a b : RegNum} {f : Word → Word → Word} (h : s.logicInto a b f = .ok t) :
    ∃ x y, s.readReg a = .ok x ∧ s.logicOperand b = .ok y ∧
      t = (s.setRegs (s.regs.set (phys s.status.cwp a) (f x y))).setStatus (s.status.logicFlags (f x y)) := by
  obtain ⟨y, hy, h'⟩ := bind_ok.mp h
  obtain ⟨x, hx, -⟩ := bind_ok.mp h'
  rw [logicInto_of_read f hx hy] at h
  exact ⟨x, y, hx, hy, by simpa using h.symm⟩

theorem rotateInto_of_lt {s : State} {a : RegNum} (r : Word) (c : Bool) (h : phys s.status.cwp a < s.regs.length) :
    s.rotateInto a r c = .ok ((s.setRegs (s.regs.set (phys s.status.cwp a) r)).setStatus (s.status.withCarry c)) := by
  simp [State.rotateInto, writeReg_of_lt _ h]

theorem rotateInto_ok {s t : State} {a : RegNum} {r : Word} {c : Bool} (h : s.rotateInto a r c = .ok t) :
    t = (s.setRegs (s.regs.set (phys s.status.cwp a) r)).setStatus (s.status.withCarry c) := by
  obtain ⟨u, hu, h⟩ := bind_ok.mp h
  obtain ⟨-, rfl⟩ := writeReg_ok hu
  simpa using h.symm

/-! ## The bus -/

theorem regionOf_ok {s : State} {a n : Nat} {k : RegionKind} (h : s.regionOf a n = .ok k) :
    ∃ r ∈ s.cfg.memMap, r.kind = k ∧ r.base ≤ a ∧ a + n ≤ r.base + r.size := by
  unfold State.regionOf at h
  cases hf : s.cfg.memMap.find? fun r => decide (r.base ≤ a ∧ a + n ≤ r.base + r.size) with
  | none => rw [hf] at h; cases h
  | some r =>
    rw [hf] at h
    simp only [Except.ok.injEq] at h
    exact ⟨r, List.mem_of_find?_eq_some hf, h, by simpa using List.find?_some hf⟩

/-- With a map inside the 32-bit space, an access that the map holds stays inside it. -/
theorem regionOf_bound {s : State} {a n : Nat} {k : RegionKind} (h : s.regionOf a n = .ok k)
    (hc : s.cfg.valid = true) : a + n ≤ 2 ^ 32 := by
  obtain ⟨r, hr, -, -, h2⟩ := regionOf_ok h
  simp only [Config.valid, Bool.and_eq_true, List.all_eq_true, decide_eq_true_eq] at hc
  exact h2.trans (hc.2 r hr)

theorem busReadWord_ok {s t : State} {a v : Word} (h : s.busReadWord a = .ok (v, t)) :
    (t = s ∧ v = s.mem.readWord a.toNat ∧ ∃ k, s.regionOf a.toNat 4 = .ok k ∧ k ≠ .device) ∨
    (t = s.drawFree ∧ v = Config.freeWord s.freeCtr ∧ s.regionOf a.toNat 4 = .ok .device) := by
  unfold State.busReadWord at h
  split at h
  · simp only [Except.ok.injEq, Prod.mk.injEq] at h
    exact .inr ⟨h.2.symm, h.1.symm, ‹_›⟩
  · rename_i k hk hr
    simp only [Except.ok.injEq, Prod.mk.injEq] at h
    exact .inl ⟨h.2.symm, h.1.symm, k, hr, fun hd => hk hd⟩
  · cases h

theorem busReadHalf_ok {s t : State} {a : Word} {v : Half} (h : s.busReadHalf a = .ok (v, t)) :
    (t = s ∧ v = s.mem.readHalf a.toNat ∧ ∃ k, s.regionOf a.toNat 2 = .ok k ∧ k ≠ .device) ∨
    (t = s.drawFree ∧ v = (Config.freeWord s.freeCtr).setWidth 16 ∧ s.regionOf a.toNat 2 = .ok .device) := by
  unfold State.busReadHalf at h
  split at h
  · simp only [Except.ok.injEq, Prod.mk.injEq] at h
    exact .inr ⟨h.2.symm, h.1.symm, ‹_›⟩
  · rename_i k hk hr
    simp only [Except.ok.injEq, Prod.mk.injEq] at h
    exact .inl ⟨h.2.symm, h.1.symm, k, hr, fun hd => hk hd⟩
  · cases h

theorem busWrite_ok {s t : State} {a : Word} {l : List Byte} (h : s.busWrite a l = .ok t) :
    (t = s.setMem (s.mem.writeBytes a.toNat l) ∧ s.regionOf a.toNat l.length = .ok .ram) ∨
    (t = s ∧ ∃ k, s.regionOf a.toNat l.length = .ok k ∧ k ≠ .ram) := by
  unfold State.busWrite at h
  split at h
  · exact .inl ⟨by simpa using h.symm, ‹_›⟩
  · rename_i k hk hr
    exact .inr ⟨by simpa using h.symm, k, hr, fun hd => hk hd⟩
  · cases h

/-! ## The caches -/

theorem dataFill_ok {s t : State} {w v : Word} (h : s.dataFill w = .ok (v, t)) :
    ∃ u, s.busReadWord w = .ok (v, u) ∧ t = u.setDline w (.valid (dtag s.cfg w) v) := by
  obtain ⟨⟨v', u⟩, hu, h⟩ := bind_ok.mp h
  simp only [Except.ok.injEq, Prod.mk.injEq] at h
  obtain ⟨rfl, rfl⟩ := h
  exact ⟨u, hu, rfl⟩

/-- A load reads past the cache, hits, or misses and fills its line. -/
theorem dataLoad_ok {s t : State} {w v : Word} {bypass : Bool} (h : s.dataLoad w bypass = .ok (v, t)) :
    (s.busReadWord w = .ok (v, t) ∧ (s.cfg.hasDCache = false ∨ s.status.dc = false ∨ bypass = true)) ∨
    (s.cfg.hasDCache = true ∧ s.status.dc = true ∧ bypass = false ∧
      ((t = s ∧ s.dline w = .valid (dtag s.cfg w) v) ∨
        ∃ u, s.busReadWord w = .ok (v, u) ∧ t = u.setDline w (.valid (dtag s.cfg w) v))) := by
  unfold State.dataLoad at h
  split at h
  · rename_i hc
    refine .inl ⟨h, ?_⟩
    cases h1 : s.cfg.hasDCache <;> cases h2 : s.status.dc <;> simp_all
  · rename_i hc
    have hc' : s.cfg.hasDCache = true ∧ s.status.dc = true ∧ bypass = false := by
      cases h1 : s.cfg.hasDCache <;> cases h2 : s.status.dc <;> cases h3 : bypass <;> simp_all
    refine .inr ⟨hc'.1, hc'.2.1, hc'.2.2, ?_⟩
    split at h
    · cases h
    · exact .inr (dataFill_ok h)
    · rename_i tag d hl
      split at h
      · rename_i ht
        simp only [Except.ok.injEq, Prod.mk.injEq] at h
        obtain ⟨rfl, rfl⟩ := h
        exact .inl ⟨rfl, by rw [hl, ht]⟩
      · exact .inr (dataFill_ok h)

theorem loadInto_ok {s t : State} {a : RegNum} {w : Word} {bypass : Bool} (h : s.loadInto a w bypass = .ok t) :
    ∃ v u, s.dataLoad w bypass = .ok (v, u) ∧ phys u.status.cwp a < u.regs.length ∧
      t = u.setRegs (u.regs.set (phys u.status.cwp a) v) := by
  obtain ⟨⟨v, u⟩, hu, h⟩ := bind_ok.mp h
  exact ⟨v, u, hu, writeReg_ok h⟩

theorem wordStore_ok {s t : State} {w v : Word} (h : s.wordStore w v = .ok t) :
    ∃ u, s.busWrite w (wordBytes v) = .ok u ∧
      ((t = u.setDline w (.valid (dtag u.cfg w) v) ∧ u.cfg.hasDCache = true) ∨ (t = u ∧ u.cfg.hasDCache = false)) := by
  obtain ⟨u, hu, h⟩ := bind_ok.mp h
  refine ⟨u, hu, ?_⟩
  split at h
  · rename_i hc; exact .inl ⟨by simpa using h.symm, hc⟩
  · rename_i hc; exact .inr ⟨by simpa using h.symm, by simpa using hc⟩

/-- A partial-width store leaves the cache as it is or makes the word's line invalid. -/
theorem dropDline_cases (s : State) (w : Word) :
    s.dropDline w = s ∨ (s.dropDline w = s.setDline w .invalid ∧ s.cfg.hasDCache = true) := by
  unfold State.dropDline
  split
  · rename_i hc
    split
    · split
      · exact .inr ⟨rfl, hc⟩
      · exact .inl rfl
    · exact .inl rfl
  · exact .inl rfl

theorem byteStore_ok {s t : State} {w r0 : Word} {n : BitVec 2} (h : s.byteStore w n r0 = .ok t) :
    ∃ u, s.busWrite (byteAddress w n) [byteOf r0 n] = .ok u ∧ t = u.dropDline w := by
  obtain ⟨u, hu, h⟩ := bind_ok.mp h
  exact ⟨u, hu, by simpa using h.symm⟩

theorem halfStore_ok {s t : State} {w r0 : Word} {n : BitVec 1} (h : s.halfStore w n r0 = .ok t) :
    ∃ u, s.busWrite (halfAddress w n) (halfBytes (halfOf r0 n)) = .ok u ∧ t = u.dropDline w := by
  obtain ⟨u, hu, h⟩ := bind_ok.mp h
  exact ⟨u, hu, by simpa using h.symm⟩

theorem fetchFill_ok {s t : State} {a : Word} {v : Half} (h : s.fetchFill a = .ok (v, t)) :
    ∃ u, s.busReadHalf a = .ok (v, u) ∧ t = u.setIline a (.valid (itag s.cfg a) v) := by
  obtain ⟨⟨v', u⟩, hu, h⟩ := bind_ok.mp h
  simp only [Except.ok.injEq, Prod.mk.injEq] at h
  obtain ⟨rfl, rfl⟩ := h
  exact ⟨u, hu, rfl⟩

/-- A fetch reads memory, hits, or misses and fills its line. -/
theorem fetch_ok {s t : State} {a : Word} {v : Half} (h : s.fetch a = .ok (v, t)) :
    (s.busReadHalf a = .ok (v, t) ∧ (s.cfg.hasICache = false ∨ s.status.ic = false)) ∨
    (s.cfg.hasICache = true ∧ s.status.ic = true ∧
      ((t = s ∧ s.iline a = .valid (itag s.cfg a) v) ∨
        ∃ u, s.busReadHalf a = .ok (v, u) ∧ t = u.setIline a (.valid (itag s.cfg a) v))) := by
  unfold State.fetch at h
  split at h
  · rename_i hc
    refine .inl ⟨h, ?_⟩
    cases h1 : s.cfg.hasICache <;> cases h2 : s.status.ic <;> simp_all
  · rename_i hc
    have hc' : s.cfg.hasICache = true ∧ s.status.ic = true := by
      cases h1 : s.cfg.hasICache <;> cases h2 : s.status.ic <;> simp_all
    refine .inr ⟨hc'.1, hc'.2, ?_⟩
    split at h
    · cases h
    · exact .inr (fetchFill_ok h)
    · rename_i tag d hl
      split at h
      · rename_i ht
        simp only [Except.ok.injEq, Prod.mk.injEq] at h
        obtain ⟨rfl, rfl⟩ := h
        exact .inl ⟨rfl, by rw [hl, ht]⟩
      · exact .inr (fetchFill_ok h)

/-! ## The end of an instruction -/

theorem goOn_next {x : Except Fault State} {t : State} (h : goOn x = .next t) : ∃ u, x = .ok u ∧ t = u.retire := by
  cases x with
  | error f => cases h
  | ok u => exact ⟨u, rfl, by simpa [goOn, Except.map, finish] using h.symm⟩

@[simp] theorem goOn_ok (s : State) : goOn (.ok s) = .next s.retire := rfl
@[simp] theorem goOn_error (f : Fault) : goOn (.error f) = .fault f := rfl

theorem notAfterPfxio_next {s t : State} {r : Result} (h : s.notAfterPfxio r = .next t) :
    s.iobyp = false ∧ r = .next t := by
  unfold State.notAfterPfxio at h
  split at h
  · cases h
  · rename_i hc; exact ⟨by simpa using hc, h⟩

theorem notInSlot_next {s t : State} {r : Result} (h : s.notInSlot r = .next t) : s.delay = none ∧ r = .next t := by
  unfold State.notInSlot at h
  split at h
  · cases h
  · rename_i hc; exact ⟨by simpa using hc, h⟩

@[simp] theorem notAfterPfxio_of {s : State} (r : Result) (h : s.iobyp = false) : s.notAfterPfxio r = r := by
  simp [State.notAfterPfxio, h]

@[simp] theorem notInSlot_of {s : State} (r : Result) (h : s.delay = none) : s.notInSlot r = r := by
  simp [State.notInSlot, h]

theorem plain_of {s u : State} {body : Except Fault State} (h : s.iobyp = false) (hb : body = .ok u) :
    s.plain body = .next u.retire := by
  simp [State.plain, h, hb]

theorem plain_next {s t : State} {body : Except Fault State} (h : s.plain body = .next t) :
    s.iobyp = false ∧ ∃ u, body = .ok u ∧ t = u.retire :=
  ⟨(notAfterPfxio_next h).1, goOn_next (notAfterPfxio_next h).2⟩

theorem transfer_of {s u : State} {body : Except Fault State} (hd : s.delay = none) (h : s.iobyp = false)
    (hb : body = .ok u) : s.transfer body = .next u := by
  simp [State.transfer, hd, h, hb]

theorem transfer_next {s t : State} {body : Except Fault State} (h : s.transfer body = .next t) :
    s.delay = none ∧ s.iobyp = false ∧ body = .ok t := by
  obtain ⟨hd, h⟩ := notInSlot_next h
  obtain ⟨hi, h⟩ := notAfterPfxio_next h
  exact ⟨hd, hi, finish_next.mp h⟩

theorem takePrefix_next {s t : State} {imm : BitVec 11} {io : Bool} (h : s.takePrefix imm io = .next t) :
    s.delay = none ∧ s.pfx = false ∧ s.iobyp = false ∧ t = s.loadPrefix imm io := by
  obtain ⟨hd, h⟩ := notInSlot_next h
  split at h
  · cases h
  · obtain ⟨hi, h⟩ := notAfterPfxio_next h
    rename_i hc _; exact ⟨hd, by simpa using hc, hi, by simpa using h.symm⟩

/-- A skip goes to the next instruction, past it, or past it and its prefix. -/
theorem skipIf_ok {s t : State} {cond : Bool} (h : s.skipIf cond = .ok t) :
    (cond = false ∧ t = s.goto (s.pc + 2#32)) ∨
    (cond = true ∧ ∃ w u, s.fetch (s.pc + 2#32) = .ok (w, u) ∧
      t = u.goto (if isPrefixWord w then s.pc + 6#32 else s.pc + 4#32)) := by
  unfold State.skipIf at h
  split at h
  · rename_i hc
    obtain ⟨⟨w, u⟩, hu, h⟩ := bind_ok.mp h
    exact .inr ⟨hc, w, u, hu, by simpa using h.symm⟩
  · rename_i hc; exact .inl ⟨by simpa using hc, by simpa using h.symm⟩

/-! ## Exceptions -/

theorem vectorFetch_ok {s t : State} {n : BitVec 6} {h' : Word} (h : s.vectorFetch n = .ok (h', t)) :
    ∃ v, s.busReadWord (s.cfg.vecBase + n.setWidth 32 * 4#32) = .ok (v, t) ∧ h' = codeAddress v := by
  obtain ⟨⟨v, u⟩, hu, h⟩ := bind_ok.mp h
  simp only [Except.ok.injEq, Prod.mk.injEq] at h
  obtain ⟨rfl, rfl⟩ := h
  exact ⟨v, hu, rfl⟩

/-- Everything an exception entry does. -/
theorem enter_ok {s t : State} {n : BitVec 6} {ret : Word} {dec : Bool} (h : s.enter n ret dec = .ok t) :
    ∃ u v, u = ((s.setIstatus s.status).setStatus (s.status.entered n dec)).setRegs
        (s.regs.set (phys (s.status.entered n dec).cwp 15#5) (returnAddress ret)) ∧
      phys (s.status.entered n dec).cwp 15#5 < s.regs.length ∧
      ∃ w, u.busReadWord (s.cfg.vecBase + n.setWidth 32 * 4#32) = .ok (v, w) ∧
        t = (w.goto (codeAddress v)).setNopdue false := by
  obtain ⟨u, hu, h⟩ := bind_ok.mp h
  obtain ⟨⟨p, w⟩, hw, h⟩ := bind_ok.mp h
  obtain ⟨hlt, rfl⟩ := writeReg_ok hu
  obtain ⟨v, hv, rfl⟩ := vectorFetch_ok hw
  exact ⟨_, v, rfl, hlt, w, hv, by simpa using h.symm⟩

/-! ## Control registers -/

/-- A read of a control register changes nothing but the count of free values. -/
theorem readCtl_ok {s t : State} {v : Word} (h : s.readCtl = .ok (v, t)) : t = s ∨ t = s.drawFree := by
  unfold State.readCtl at h
  split at h <;> first | (cases h; done) | (simp only [Except.ok.injEq, Prod.mk.injEq] at h; simp [← h.2])

/-- What a write of a control register can do, by its index. -/
theorem writeCtl_ok {s t : State} {v : Word} (h : s.writeCtl v = .ok t) :
    (s.k.toNat = 0 ∧ t = s.writeStatus v) ∨
    (s.k.toNat = 1 ∧ t = s.setIstatus ((Status.ofWord v).present s.cfg)) ∨
    (s.k.toNat = 2 ∧ (t = s ∨ t = s.setWvalid (Wvalid.ofWord v))) ∨
    (s.k.toNat = 5 ∧ (t = s ∨ (t = s.setIline v .invalid ∧ s.cfg.hasICache = true))) ∨
    (s.k.toNat = 7 ∧ (t = s ∨ (t = s.setDline v .invalid ∧ s.cfg.hasDCache = true))) ∨
    (s.k.toNat = 8 ∧ t = s.setStatus { s.status with ie := false }) ∨
    (s.k.toNat = 9 ∧ t = s.setStatus { s.status with ie := true }) := by
  unfold State.writeCtl at h
  split at h
  · exact .inl ⟨‹_›, by simpa using h.symm⟩
  · exact .inr (.inl ⟨‹_›, by simpa using h.symm⟩)
  · refine .inr (.inr (.inl ⟨‹_›, ?_⟩))
    split at h
    · exact .inr (by simpa using h.symm)
    · exact .inl (by simpa using h.symm)
  · refine .inr (.inr (.inr (.inl ⟨‹_›, ?_⟩)))
    unfold State.writeICache at h
    split at h
    · exact .inl (by simpa using h.symm)
    · split at h
      · cases h
      · exact .inr ⟨by simpa using h.symm, by simpa using ‹¬ (!s.cfg.hasICache) = true›⟩
  · refine .inr (.inr (.inr (.inr (.inl ⟨‹_›, ?_⟩))))
    unfold State.writeDCache at h
    split at h
    · exact .inl (by simpa using h.symm)
    · split at h
      · cases h
      · exact .inr ⟨by simpa using h.symm, by simpa using ‹¬ (!s.cfg.hasDCache) = true›⟩
  · exact .inr (.inr (.inr (.inr (.inr (.inl ⟨‹_›, by simpa using h.symm⟩)))))
  · exact .inr (.inr (.inr (.inr (.inr (.inr ⟨‹_›, by simpa using h.symm⟩)))))
  · cases h

/-! ## What the shared operations leave alone -/

/-- A load changes at most the data cache and the count of free values. -/
theorem dataLoad_frame {s t : State} {w v : Word} {b : Bool} (h : s.dataLoad w b = .ok (v, t)) :
    ∃ d f, t = { s with dcache := d, freeCtr := f } := by
  rcases dataLoad_ok h with ⟨h, -⟩ | ⟨-, -, -, ⟨rfl, -⟩ | ⟨u, hu, rfl⟩⟩
  · rcases busReadWord_ok h with ⟨rfl, -⟩ | ⟨rfl, -⟩ <;> exact ⟨_, _, rfl⟩
  · exact ⟨_, _, rfl⟩
  · rcases busReadWord_ok hu with ⟨rfl, -⟩ | ⟨rfl, -⟩ <;> exact ⟨_, _, rfl⟩

/-- A fetch changes at most the instruction cache and the count of free values. -/
theorem fetch_frame {s t : State} {a : Word} {v : Half} (h : s.fetch a = .ok (v, t)) :
    ∃ d f, t = { s with icache := d, freeCtr := f } := by
  rcases fetch_ok h with ⟨h, -⟩ | ⟨-, -, ⟨rfl, -⟩ | ⟨u, hu, rfl⟩⟩
  · rcases busReadHalf_ok h with ⟨rfl, -⟩ | ⟨rfl, -⟩ <;> exact ⟨_, _, rfl⟩
  · exact ⟨_, _, rfl⟩
  · rcases busReadHalf_ok hu with ⟨rfl, -⟩ | ⟨rfl, -⟩ <;> exact ⟨_, _, rfl⟩

/-- A bus write changes at most memory. -/
theorem busWrite_frame {s t : State} {a : Word} {l : List Byte} (h : s.busWrite a l = .ok t) :
    ∃ m, t = { s with mem := m } := by
  rcases busWrite_ok h with ⟨rfl, -⟩ | ⟨rfl, -⟩ <;> exact ⟨_, rfl⟩

/-- A word store changes at most memory and the data cache. -/
theorem wordStore_frame {s t : State} {w v : Word} (h : s.wordStore w v = .ok t) :
    ∃ d m, t = { s with dcache := d, mem := m } := by
  obtain ⟨u, hu, h⟩ := wordStore_ok h
  obtain ⟨m, rfl⟩ := busWrite_frame hu
  rcases h with ⟨rfl, -⟩ | ⟨rfl, -⟩ <;> exact ⟨_, _, rfl⟩

theorem dropDline_frame (s : State) (w : Word) : ∃ d, s.dropDline w = { s with dcache := d } := by
  rcases dropDline_cases s w with h | ⟨h, -⟩ <;> exact ⟨_, h⟩

/-- A byte store changes at most memory and the data cache. -/
theorem byteStore_frame {s t : State} {w v : Word} {n : BitVec 2} (h : s.byteStore w n v = .ok t) :
    ∃ d m, t = { s with dcache := d, mem := m } := by
  obtain ⟨u, hu, rfl⟩ := byteStore_ok h
  obtain ⟨m, rfl⟩ := busWrite_frame hu
  obtain ⟨d, hd⟩ := dropDline_frame { s with mem := m } w
  exact ⟨d, m, hd⟩

/-- A half-word store changes at most memory and the data cache. -/
theorem halfStore_frame {s t : State} {w v : Word} {n : BitVec 1} (h : s.halfStore w n v = .ok t) :
    ∃ d m, t = { s with dcache := d, mem := m } := by
  obtain ⟨u, hu, rfl⟩ := halfStore_ok h
  obtain ⟨m, rfl⟩ := busWrite_frame hu
  obtain ⟨d, hd⟩ := dropDline_frame { s with mem := m } w
  exact ⟨d, m, hd⟩

/-- A skip changes at most the instruction cache, the count of free values and where execution goes on. -/
theorem skipIf_frame {s t : State} {cond : Bool} (h : s.skipIf cond = .ok t) :
    ∃ d f p, t = State.goto { s with icache := d, freeCtr := f } p := by
  rcases skipIf_ok h with ⟨-, rfl⟩ | ⟨-, w, u, hu, rfl⟩
  · exact ⟨_, _, _, rfl⟩
  · obtain ⟨d, f, rfl⟩ := fetch_frame hu
    exact ⟨d, f, _, rfl⟩

end Sys2Proof.Machine
end

