-- ==== Sys2Proof/Laws/Entry.lean ====
section
/-! SUPPORT. What Safety's words about the bus and an exception's handler say of the operations. -/

namespace Sys2Proof.Machine

theorem readReg_of_holds {s : State} {r : RegNum} {v : Word} (h : Holds s r v) : s.readReg r = .ok v := readReg_iff.mpr h

theorem regExists_of_holds {s : State} {r : RegNum} {v : Word} (h : Holds s r v) : RegExists s r :=
  readReg_lt (readReg_of_holds h)

theorem writeReg_of_exists {s : State} {r : RegNum} (v : Word) (h : RegExists s r) : s.writeReg r v = .ok (s.withReg r v) :=
  writeReg_of_lt v h

theorem busReadWord_of {s : State} {a v : Word} {f : Nat} (h : BusWord s a v f) :
    s.busReadWord a = .ok (v, { s with freeCtr := f }) := by
  rcases h with ⟨k, hk, hn, rfl, rfl⟩ | ⟨hk, rfl, rfl⟩
  · simp only [State.busReadWord, hk]
    cases k <;> first | exact absurd rfl hn | rfl
  · simp only [State.busReadWord, hk]
    rfl

theorem busReadHalf_of {s : State} {a : Word} {v : Half} {f : Nat} (h : BusHalf s a v f) :
    s.busReadHalf a = .ok (v, { s with freeCtr := f }) := by
  rcases h with ⟨k, hk, hn, rfl, rfl⟩ | ⟨hk, rfl, rfl⟩
  · simp only [State.busReadHalf, hk]
    cases k <;> first | exact absurd rfl hn | rfl
  · simp only [State.busReadHalf, hk]
    rfl

theorem vectorFetch_of {s : State} {n : BitVec 6} {v : Word} {f : Nat}
    (h : BusWord s (s.cfg.vecBase + n.setWidth 32 * 4#32) v f) :
    s.vectorFetch n = .ok (v <<< 1, { s with freeCtr := f }) := by
  simp only [State.vectorFetch, busReadWord_of h]
  rfl

/-! ## Accesses outside the memory map, and handlers without a register or a vector -/

theorem regionOf_unmapped {s : State} {a : Word} {n : Nat} (h : Unmapped s a n) :
    s.regionOf a.toNat n = .error .unmapped := by
  have : s.cfg.memMap.find? (fun r => decide (r.base ≤ a.toNat ∧ a.toNat + n ≤ r.base + r.size)) = none :=
    List.find?_eq_none.mpr fun r hr => by simpa using h r hr
  simp only [State.regionOf, this]

theorem busReadWord_unmapped {s : State} {a : Word} (h : Unmapped s a 4) : s.busReadWord a = .error .unmapped := by
  simp only [State.busReadWord, regionOf_unmapped h]

theorem busReadHalf_unmapped {s : State} {a : Word} (h : Unmapped s a 2) : s.busReadHalf a = .error .unmapped := by
  simp only [State.busReadHalf, regionOf_unmapped h]

theorem busWrite_unmapped {s : State} {a : Word} {l : List Byte} (h : Unmapped s a l.length) :
    s.busWrite a l = .error .unmapped := by
  simp only [State.busWrite, regionOf_unmapped h]

theorem vectorFetch_unmapped {s : State} {n : BitVec 6} (h : Unmapped s (s.cfg.vecBase + n.setWidth 32 * 4#32) 4) :
    s.vectorFetch n = .error .unmapped := by
  simp only [State.vectorFetch, busReadWord_unmapped h, error_bind]

/-- The entry of an exception whose handler's %o7 lies beyond the register file. -/
theorem enter_missing {s : State} {n : BitVec 6} {ret : Word} {dec : Bool}
    (h : s.regs.length ≤ phys (if dec then s.status.cwp - 1#5 else s.status.cwp) 15#5) :
    s.enter n ret dec = .error .registerFileRange := by
  have := writeReg_error (s := (s.setIstatus s.status).setStatus (s.status.entered n dec)) (r := 15#5) (returnAddress ret)
    (by simpa [Status.entered] using h)
  simp only [State.enter, this, error_bind]

/-- The entry of an exception whose vector lies outside the memory map. -/
theorem enter_unmapped {s : State} {n : BitVec 6} {ret : Word} {dec : Bool}
    (hr : phys (if dec then s.status.cwp - 1#5 else s.status.cwp) 15#5 < s.regs.length)
    (h : Unmapped s (s.cfg.vecBase + n.setWidth 32 * 4#32) 4) : s.enter n ret dec = .error .unmapped := by
  have := writeReg_of_lt (s := (s.setIstatus s.status).setStatus (s.status.entered n dec)) (r := 15#5) (returnAddress ret)
    (by simpa [Status.entered] using hr)
  simp only [State.enter, this, ok_bind]
  rw [vectorFetch_unmapped (by simpa [Unmapped] using h), error_bind]

/-! ## The interrupt inputs -/

/-- The level of the inputs is kept when no sample is to come. -/
theorem sampleInputs_nil {s : State} (h : s.irqTrace = []) : s.sampleInputs = s := by
  simp only [State.sampleInputs, h]

/-- One sample is taken. -/
theorem sampleInputs_cons {s : State} {x : IrqSample} {rest : List IrqSample} (h : s.irqTrace = x :: rest) :
    s.sampleInputs = { s with irq := x.irq, irqNumber := x.number, irqTrace := rest } := by
  simp only [State.sampleInputs, h, State.setInputs]

end Sys2Proof.Machine
end

