-- ==== Sys2Proof/Laws/PerInstr.lean ====
section
/-! SUPPORT. The per-instruction family `TableRow`: the word the encoder writes carries the row of
spec/opcode_table.json that is its instruction's: under the row's mask it is the row's match. -/

namespace Sys2Proof

/-- The mask of an instruction's row. -/
def Instr.tableMask : Instr → Half
  | .add _ _ => 0xFC00#16
  | .addi _ _ => 0xFC00#16
  | .sub _ _ => 0xFC00#16
  | .subi _ _ => 0xFC00#16
  | .cmp _ _ => 0xFC00#16
  | .cmpi _ _ => 0xFC00#16
  | .lsl _ _ => 0xFC00#16
  | .lsli _ _ => 0xFC00#16
  | .lsr _ _ => 0xFC00#16
  | .lsri _ _ => 0xFC00#16
  | .asr _ _ => 0xFC00#16
  | .asri _ _ => 0xFC00#16
  | .mov _ _ => 0xFC00#16
  | .movi _ _ => 0xFC00#16
  | .and _ _ => 0xFC00#16
  | .andn _ _ => 0xFC00#16
  | .or _ _ => 0xFC00#16
  | .xor _ _ => 0xFC00#16
  | .bgen _ _ => 0xFC00#16
  | .ext8d _ _ => 0xFC00#16
  | .skp0 _ _ => 0xFC00#16
  | .skp1 _ _ => 0xFC00#16
  | .ld _ _ => 0xFC00#16
  | .st _ _ => 0xFC00#16
  | .sts8s _ => 0xFC00#16
  | .sts16s _ => 0xFC01#16
  | .ext16d _ _ => 0xFC00#16
  | .movhi _ _ => 0xFC00#16
  | .usr0 _ _ => 0xFC00#16
  | .ext8s _ _ => 0xFF80#16
  | .ext16s _ _ => 0xFFA0#16
  | .st8s _ _ => 0xFF80#16
  | .st16s _ _ => 0xFFA0#16
  | .save _ => 0xFF00#16
  | .trap _ => 0xFFC0#16
  | .not _ => 0xFFE0#16
  | .neg _ => 0xFFE0#16
  | .abs _ => 0xFFE0#16
  | .sext8 _ => 0xFFE0#16
  | .sext16 _ => 0xFFE0#16
  | .rlc _ => 0xFFE0#16
  | .rrc _ => 0xFFE0#16
  | .swap _ => 0xFFE0#16
  | .usr1 _ => 0xFFE0#16
  | .usr2 _ => 0xFFE0#16
  | .usr3 _ => 0xFFE0#16
  | .usr4 _ => 0xFFE0#16
  | .restore => 0xFFFF#16
  | .tret _ => 0xFFE0#16
  | .st8d _ => 0xFFE0#16
  | .st16d _ => 0xFFE0#16
  | .fill8 _ => 0xFFE0#16
  | .fill16 _ => 0xFFE0#16
  | .mstep _ => 0xFFE0#16
  | .mul _ => 0xFFE0#16
  | .skprz _ => 0xFFE0#16
  | .skps _ => 0xFFF0#16
  | .wrctl _ => 0xFFE0#16
  | .rdctl _ => 0xFFE0#16
  | .skprnz _ => 0xFFE0#16
  | .jmp _ => 0xFFE0#16
  | .call _ => 0xFFE0#16
  | .br _ => 0xF800#16
  | .bsr _ => 0xF800#16
  | .pfxio _ => 0xF800#16
  | .pfx _ => 0xF800#16
  | .stp _ _ _ => 0xF000#16
  | .ldp _ _ _ => 0xF000#16
  | .sts _ _ => 0xE000#16
  | .lds _ _ => 0xE000#16

/-- The match of an instruction's row. -/
def Instr.tableMatch : Instr → Half
  | .add _ _ => 0x0000#16
  | .addi _ _ => 0x0400#16
  | .sub _ _ => 0x0800#16
  | .subi _ _ => 0x0C00#16
  | .cmp _ _ => 0x1000#16
  | .cmpi _ _ => 0x1400#16
  | .lsl _ _ => 0x1800#16
  | .lsli _ _ => 0x1C00#16
  | .lsr _ _ => 0x2000#16
  | .lsri _ _ => 0x2400#16
  | .asr _ _ => 0x2800#16
  | .asri _ _ => 0x2C00#16
  | .mov _ _ => 0x3000#16
  | .movi _ _ => 0x3400#16
  | .and _ _ => 0x3800#16
  | .andn _ _ => 0x3C00#16
  | .or _ _ => 0x4000#16
  | .xor _ _ => 0x4400#16
  | .bgen _ _ => 0x4800#16
  | .ext8d _ _ => 0x4C00#16
  | .skp0 _ _ => 0x5000#16
  | .skp1 _ _ => 0x5400#16
  | .ld _ _ => 0x5800#16
  | .st _ _ => 0x5C00#16
  | .sts8s _ => 0x6000#16
  | .sts16s _ => 0x6400#16
  | .ext16d _ _ => 0x6800#16
  | .movhi _ _ => 0x6C00#16
  | .usr0 _ _ => 0x7000#16
  | .ext8s _ _ => 0x7400#16
  | .ext16s _ _ => 0x7480#16
  | .st8s _ _ => 0x7600#16
  | .st16s _ _ => 0x7680#16
  | .save _ => 0x7800#16
  | .trap _ => 0x7900#16
  | .not _ => 0x7C00#16
  | .neg _ => 0x7C20#16
  | .abs _ => 0x7C40#16
  | .sext8 _ => 0x7C60#16
  | .sext16 _ => 0x7C80#16
  | .rlc _ => 0x7CA0#16
  | .rrc _ => 0x7CC0#16
  | .swap _ => 0x7D00#16
  | .usr1 _ => 0x7D20#16
  | .usr2 _ => 0x7D40#16
  | .usr3 _ => 0x7D60#16
  | .usr4 _ => 0x7D80#16
  | .restore => 0x7DA0#16
  | .tret _ => 0x7DC0#16
  | .st8d _ => 0x7E00#16
  | .st16d _ => 0x7E20#16
  | .fill8 _ => 0x7E40#16
  | .fill16 _ => 0x7E60#16
  | .mstep _ => 0x7E80#16
  | .mul _ => 0x7EA0#16
  | .skprz _ => 0x7EC0#16
  | .skps _ => 0x7EE0#16
  | .wrctl _ => 0x7F00#16
  | .rdctl _ => 0x7F20#16
  | .skprnz _ => 0x7F40#16
  | .jmp _ => 0x7FC0#16
  | .call _ => 0x7FE0#16
  | .br _ => 0x8000#16
  | .bsr _ => 0x8800#16
  | .pfxio _ => 0x9000#16
  | .pfx _ => 0x9800#16
  | .stp _ _ _ => 0xA000#16
  | .ldp _ _ _ => 0xB000#16
  | .sts _ _ => 0xC000#16
  | .lds _ _ => 0xE000#16

/-! ## The fixed bits of a bit row, by the shape of its fields -/

theorem fixed_bits2 {p q : Nat} (l m : BitVec p) (a : BitVec q) (h : l &&& m = l) :
    (l ++ a) &&& (m ++ 0#q) = l ++ 0#q := by
  rw [BitVec.and_append, h]; simp

theorem fixed_bits3 {p q r : Nat} (l m : BitVec p) (b : BitVec q) (a : BitVec r) (h : l &&& m = l) :
    (l ++ b ++ a) &&& (m ++ 0#q ++ 0#r) = l ++ 0#q ++ 0#r := by
  rw [BitVec.and_append, BitVec.and_append, h]; simp

theorem fixed_bits3_low {p q r : Nat} (l m : BitVec p) (b : BitVec q) (n : BitVec r) (h : l &&& m = l) :
    (l ++ b ++ 0#r) &&& (m ++ 0#q ++ n) = l ++ 0#q ++ 0#r := by
  rw [BitVec.and_append, BitVec.and_append, h]; simp

theorem fixed_bits4 {p q r s : Nat} (l m : BitVec p) (c : BitVec q) (b : BitVec r) (a : BitVec s) (h : l &&& m = l) :
    (l ++ c ++ b ++ a) &&& (m ++ 0#q ++ 0#r ++ 0#s) = l ++ 0#q ++ 0#r ++ 0#s := by
  rw [BitVec.and_append, BitVec.and_append, BitVec.and_append, h]; simp

theorem fixed_bits4_low {p q r s : Nat} (l m : BitVec p) (c : BitVec q) (n : BitVec r) (a : BitVec s)
    (h : l &&& m = l) : (l ++ c ++ 0#r ++ a) &&& (m ++ 0#q ++ n ++ 0#s) = l ++ 0#q ++ 0#r ++ 0#s := by
  rw [BitVec.and_append, BitVec.and_append, BitVec.and_append, h]; simp

namespace Laws.TableRow

/-- The encoder's word lies in the instruction's row of the opcode table. -/
def Statement (i : Instr) : Prop := encode i &&& i.tableMask = i.tableMatch

theorem add (a : RegNum) (b : RegNum) : Statement (.add a b) := fixed_bits3 0b000000#6 63#6 b a rfl
theorem addi (a : RegNum) (imm : BitVec 5) : Statement (.addi a imm) := fixed_bits3 0b000001#6 63#6 imm a rfl
theorem sub (a : RegNum) (b : RegNum) : Statement (.sub a b) := fixed_bits3 0b000010#6 63#6 b a rfl
theorem subi (a : RegNum) (imm : BitVec 5) : Statement (.subi a imm) := fixed_bits3 0b000011#6 63#6 imm a rfl
theorem cmp (a : RegNum) (b : RegNum) : Statement (.cmp a b) := fixed_bits3 0b000100#6 63#6 b a rfl
theorem cmpi (a : RegNum) (imm : BitVec 5) : Statement (.cmpi a imm) := fixed_bits3 0b000101#6 63#6 imm a rfl
theorem lsl (a : RegNum) (b : RegNum) : Statement (.lsl a b) := fixed_bits3 0b000110#6 63#6 b a rfl
theorem lsli (a : RegNum) (imm : BitVec 5) : Statement (.lsli a imm) := fixed_bits3 0b000111#6 63#6 imm a rfl
theorem lsr (a : RegNum) (b : RegNum) : Statement (.lsr a b) := fixed_bits3 0b001000#6 63#6 b a rfl
theorem lsri (a : RegNum) (imm : BitVec 5) : Statement (.lsri a imm) := fixed_bits3 0b001001#6 63#6 imm a rfl
theorem asr (a : RegNum) (b : RegNum) : Statement (.asr a b) := fixed_bits3 0b001010#6 63#6 b a rfl
theorem asri (a : RegNum) (imm : BitVec 5) : Statement (.asri a imm) := fixed_bits3 0b001011#6 63#6 imm a rfl
theorem mov (a : RegNum) (b : RegNum) : Statement (.mov a b) := fixed_bits3 0b001100#6 63#6 b a rfl
theorem movi (a : RegNum) (imm : BitVec 5) : Statement (.movi a imm) := fixed_bits3 0b001101#6 63#6 imm a rfl
theorem and (a : RegNum) (b : RegNum) : Statement (.and a b) := fixed_bits3 0b001110#6 63#6 b a rfl
theorem andn (a : RegNum) (b : RegNum) : Statement (.andn a b) := fixed_bits3 0b001111#6 63#6 b a rfl
theorem or (a : RegNum) (b : RegNum) : Statement (.or a b) := fixed_bits3 0b010000#6 63#6 b a rfl
theorem xor (a : RegNum) (b : RegNum) : Statement (.xor a b) := fixed_bits3 0b010001#6 63#6 b a rfl
theorem bgen (a : RegNum) (imm : BitVec 5) : Statement (.bgen a imm) := fixed_bits3 0b010010#6 63#6 imm a rfl
theorem ext8d (a : RegNum) (b : RegNum) : Statement (.ext8d a b) := fixed_bits3 0b010011#6 63#6 b a rfl
theorem skp0 (a : RegNum) (imm : BitVec 5) : Statement (.skp0 a imm) := fixed_bits3 0b010100#6 63#6 imm a rfl
theorem skp1 (a : RegNum) (imm : BitVec 5) : Statement (.skp1 a imm) := fixed_bits3 0b010101#6 63#6 imm a rfl
theorem ld (a : RegNum) (b : RegNum) : Statement (.ld a b) := fixed_bits3 0b010110#6 63#6 b a rfl
theorem st (a : RegNum) (b : RegNum) : Statement (.st a b) := fixed_bits3 0b010111#6 63#6 b a rfl
theorem sts8s (imm : BitVec 10) : Statement (.sts8s imm) := fixed_bits2 0b011000#6 63#6 imm rfl
theorem sts16s (imm : BitVec 9) : Statement (.sts16s imm) := fixed_bits3_low 0b011001#6 63#6 imm 1#1 rfl
theorem ext16d (a : RegNum) (b : RegNum) : Statement (.ext16d a b) := fixed_bits3 0b011010#6 63#6 b a rfl
theorem movhi (a : RegNum) (imm : BitVec 5) : Statement (.movhi a imm) := fixed_bits3 0b011011#6 63#6 imm a rfl
theorem usr0 (a : RegNum) (b : RegNum) : Statement (.usr0 a b) := fixed_bits3 0b011100#6 63#6 b a rfl
theorem ext8s (a : RegNum) (imm : BitVec 2) : Statement (.ext8s a imm) := fixed_bits3 0b011101000#9 511#9 imm a rfl
theorem ext16s (a : RegNum) (imm : BitVec 1) : Statement (.ext16s a imm) := fixed_bits4_low 0b011101001#9 511#9 imm 1#1 a rfl
theorem st8s (a : RegNum) (imm : BitVec 2) : Statement (.st8s a imm) := fixed_bits3 0b011101100#9 511#9 imm a rfl
theorem st16s (a : RegNum) (imm : BitVec 1) : Statement (.st16s a imm) := fixed_bits4_low 0b011101101#9 511#9 imm 1#1 a rfl
theorem save (imm : BitVec 8) : Statement (.save imm) := fixed_bits2 0b01111000#8 255#8 imm rfl
theorem trap (imm : BitVec 6) : Statement (.trap imm) := fixed_bits2 0b0111100100#10 1023#10 imm rfl
theorem not (a : RegNum) : Statement (.not a) := fixed_bits2 0b01111100000#11 2047#11 a rfl
theorem neg (a : RegNum) : Statement (.neg a) := fixed_bits2 0b01111100001#11 2047#11 a rfl
theorem abs (a : RegNum) : Statement (.abs a) := fixed_bits2 0b01111100010#11 2047#11 a rfl
theorem sext8 (a : RegNum) : Statement (.sext8 a) := fixed_bits2 0b01111100011#11 2047#11 a rfl
theorem sext16 (a : RegNum) : Statement (.sext16 a) := fixed_bits2 0b01111100100#11 2047#11 a rfl
theorem rlc (a : RegNum) : Statement (.rlc a) := fixed_bits2 0b01111100101#11 2047#11 a rfl
theorem rrc (a : RegNum) : Statement (.rrc a) := fixed_bits2 0b01111100110#11 2047#11 a rfl
theorem swap (a : RegNum) : Statement (.swap a) := fixed_bits2 0b01111101000#11 2047#11 a rfl
theorem usr1 (a : RegNum) : Statement (.usr1 a) := fixed_bits2 0b01111101001#11 2047#11 a rfl
theorem usr2 (a : RegNum) : Statement (.usr2 a) := fixed_bits2 0b01111101010#11 2047#11 a rfl
theorem usr3 (a : RegNum) : Statement (.usr3 a) := fixed_bits2 0b01111101011#11 2047#11 a rfl
theorem usr4 (a : RegNum) : Statement (.usr4 a) := fixed_bits2 0b01111101100#11 2047#11 a rfl
theorem restore : Statement (.restore) := rfl
theorem tret (a : RegNum) : Statement (.tret a) := fixed_bits2 0b01111101110#11 2047#11 a rfl
theorem st8d (a : RegNum) : Statement (.st8d a) := fixed_bits2 0b01111110000#11 2047#11 a rfl
theorem st16d (a : RegNum) : Statement (.st16d a) := fixed_bits2 0b01111110001#11 2047#11 a rfl
theorem fill8 (a : RegNum) : Statement (.fill8 a) := fixed_bits2 0b01111110010#11 2047#11 a rfl
theorem fill16 (a : RegNum) : Statement (.fill16 a) := fixed_bits2 0b01111110011#11 2047#11 a rfl
theorem mstep (a : RegNum) : Statement (.mstep a) := fixed_bits2 0b01111110100#11 2047#11 a rfl
theorem mul (a : RegNum) : Statement (.mul a) := fixed_bits2 0b01111110101#11 2047#11 a rfl
theorem skprz (a : RegNum) : Statement (.skprz a) := fixed_bits2 0b01111110110#11 2047#11 a rfl
theorem skps (cc : BitVec 4) : Statement (.skps cc) := fixed_bits2 0b011111101110#12 4095#12 cc rfl
theorem wrctl (a : RegNum) : Statement (.wrctl a) := fixed_bits2 0b01111111000#11 2047#11 a rfl
theorem rdctl (a : RegNum) : Statement (.rdctl a) := fixed_bits2 0b01111111001#11 2047#11 a rfl
theorem skprnz (a : RegNum) : Statement (.skprnz a) := fixed_bits2 0b01111111010#11 2047#11 a rfl
theorem jmp (a : RegNum) : Statement (.jmp a) := fixed_bits2 0b01111111110#11 2047#11 a rfl
theorem call (a : RegNum) : Statement (.call a) := fixed_bits2 0b01111111111#11 2047#11 a rfl
theorem br (imm : BitVec 11) : Statement (.br imm) := fixed_bits2 0b10000#5 31#5 imm rfl
theorem bsr (imm : BitVec 11) : Statement (.bsr imm) := fixed_bits2 0b10001#5 31#5 imm rfl
theorem pfxio (imm : BitVec 11) : Statement (.pfxio imm) := fixed_bits2 0b10010#5 31#5 imm rfl
theorem pfx (imm : BitVec 11) : Statement (.pfx imm) := fixed_bits2 0b10011#5 31#5 imm rfl
theorem stp (a : RegNum) (p : BitVec 2) (imm : BitVec 5) : Statement (.stp a p imm) := fixed_bits4 0b1010#4 15#4 p imm a rfl
theorem ldp (a : RegNum) (p : BitVec 2) (imm : BitVec 5) : Statement (.ldp a p imm) := fixed_bits4 0b1011#4 15#4 p imm a rfl
theorem sts (a : RegNum) (imm : BitVec 8) : Statement (.sts a imm) := fixed_bits3 0b110#3 7#3 imm a rfl
theorem lds (a : RegNum) (imm : BitVec 8) : Statement (.lds a imm) := fixed_bits3 0b111#3 7#3 imm a rfl

end Laws.TableRow

end Sys2Proof
end

