-- ==== Sys2Proof/Tests/Slice0.lean ====
section
/-! SUPPORT. Tests: the words of the spec's examples decode; one step of every instruction gives what the spec's vectors
give (95_test_vectors.md; the vector is named beside each); and a state that meets the hypotheses of each statement. -/

namespace Sys2Proof.Tests

open Sys2Proof Sys2Proof.Machine

set_option Elab.async false

/-! ## Helpers -/

/-- The reset state with STATUS = `st` and some registers of that window set. -/
def start (st : Word) (l : List (RegNum × Word)) : State :=
  l.foldl (fun s e => s.withReg e.1 e.2) { State.reset with status := Status.ofWord st }

/-- The same with words of memory set. -/
def startMem (st : Word) (l : List (RegNum × Word)) (m : List (Nat × Word)) : State :=
  m.foldl (fun s e => s.setMem (s.mem.writeBytes e.1 (wordBytes e.2))) (start st l)

/-- The same after a prefix that loaded `k`. -/
def prefixed (k : BitVec 11) (s : State) : State := s.setPfx k true false

/-- What a step leaves, seen through `f`. -/
def after {α : Type} (r : Result) (f : State → α) : Option α :=
  match r with
  | .next t => some (f t)
  | .fault _ => none
  | .refused _ => none

/-- The instruction or the step completes. -/
def runs (r : Result) : Bool := (after r fun _ => ()).isSome

theorem exists_of_runs {r : Result} (h : runs r = true) : ∃ t, r = .next t := by
  cases r with
  | next t => exact ⟨t, rfl⟩
  | fault f => cases h
  | refused f => cases h

theorem exists_twice {r : Result} {g : State → Result} (h : (after r fun t => runs (g t)) = some true) :
    ∃ t, r = .next t ∧ ∃ u, g t = .next u := by
  cases r with
  | next t => exact ⟨t, rfl, exists_of_runs (Option.some.inj h)⟩
  | fault f => cases h
  | refused f => cases h

/-- The register `x[r]` and the flags N V Z C. -/
def regFlags (r : RegNum) (s : State) : Option Word × List Bool :=
  (s.regs[phys s.status.cwp r]?, [s.status.n, s.status.v, s.status.z, s.status.c])

def reg (r : RegNum) (s : State) : Option Word := s.regs[phys s.status.cwp r]?

/-! ## Well-formedness: a condition the table of SKPS does not define is refused (R257) -/

theorem test_wf_skps_below : (Instr.skps 0xD#4).wellFormed = true := by decide
theorem test_wf_skps_14 : (Instr.skps 0xE#4).wellFormed = false := by decide
theorem test_wf_skps_15 : (Instr.skps 0xF#4).wellFormed = false := by decide

/-! ## Decoding: words of 95_test_vectors.md (S9 where the manual prints an example, else V41 to V46 and P1, P3) -/

theorem test_decode_add : decode 0x0013#16 = .ok (.add 19#5 0#5) := by decide
theorem test_decode_addi : decode 0x04D5#16 = .ok (.addi 21#5 6#5) := by decide
theorem test_decode_sub : decode 0x081B#16 = .ok (.sub 27#5 0#5) := by decide
theorem test_decode_subi : decode 0x0CD5#16 = .ok (.subi 21#5 6#5) := by decide
theorem test_decode_cmp : decode 0x1020#16 = .ok (.cmp 0#5 1#5) := by decide
theorem test_decode_cmpi : decode 0x171B#16 = .ok (.cmpi 27#5 24#5) := by decide
theorem test_decode_lsl : decode 0x1813#16 = .ok (.lsl 19#5 0#5) := by decide
theorem test_decode_lsli : decode 0x1CD9#16 = .ok (.lsli 25#5 6#5) := by decide
theorem test_decode_lsr : decode 0x2013#16 = .ok (.lsr 19#5 0#5) := by decide
theorem test_decode_lsri : decode 0x24C1#16 = .ok (.lsri 1#5 6#5) := by decide
theorem test_decode_asr : decode 0x2813#16 = .ok (.asr 19#5 0#5) := by decide
theorem test_decode_asri : decode 0x2CDD#16 = .ok (.asri 29#5 6#5) := by decide
theorem test_decode_mov : decode 0x3268#16 = .ok (.mov 8#5 19#5) := by decide
theorem test_decode_movi : decode 0x34EB#16 = .ok (.movi 11#5 7#5) := by decide
theorem test_decode_and : decode 0x3820#16 = .ok (.and 0#5 1#5) := by decide
theorem test_decode_andn : decode 0x3C20#16 = .ok (.andn 0#5 1#5) := by decide
theorem test_decode_or : decode 0x4338#16 = .ok (.or 24#5 25#5) := by decide
theorem test_decode_xor : decode 0x4420#16 = .ok (.xor 0#5 1#5) := by decide
theorem test_decode_bgen : decode 0x48C7#16 = .ok (.bgen 7#5 6#5) := by decide
theorem test_decode_ext8d : decode 0x4F04#16 = .ok (.ext8d 4#5 24#5) := by decide
theorem test_decode_skp0 : decode 0x5166#16 = .ok (.skp0 6#5 11#5) := by decide
theorem test_decode_skp1 : decode 0x56AB#16 = .ok (.skp1 11#5 21#5) := by decide
theorem test_decode_ld : decode 0x5B60#16 = .ok (.ld 0#5 27#5) := by decide
theorem test_decode_st : decode 0x5C1B#16 = .ok (.st 27#5 0#5) := by decide
theorem test_decode_sts8s : decode 0x600D#16 = .ok (.sts8s 13#10) := by decide
theorem test_decode_sts16s : decode 0x640E#16 = .ok (.sts16s 7#9) := by decide
theorem test_decode_ext16d : decode 0x6B9B#16 = .ok (.ext16d 27#5 28#5) := by decide
theorem test_decode_movhi : decode 0x6EE3#16 = .ok (.movhi 3#5 23#5) := by decide
theorem test_decode_usr0 : decode 0x73C9#16 = .ok (.usr0 9#5 30#5) := by decide
theorem test_decode_ext8s : decode 0x7466#16 = .ok (.ext8s 6#5 3#2) := by decide
theorem test_decode_ext16s : decode 0x74D3#16 = .ok (.ext16s 19#5 1#1) := by decide
theorem test_decode_st8s : decode 0x7664#16 = .ok (.st8s 4#5 3#2) := by decide
theorem test_decode_st16s : decode 0x76C1#16 = .ok (.st16s 1#5 1#1) := by decide
theorem test_decode_save : decode 0x7817#16 = .ok (.save 23#8) := by decide
theorem test_decode_trap : decode 0x7902#16 = .ok (.trap 2#6) := by decide
theorem test_decode_not : decode 0x7C0C#16 = .ok (.not 12#5) := by decide
theorem test_decode_neg : decode 0x7C2C#16 = .ok (.neg 12#5) := by decide
theorem test_decode_abs : decode 0x7C46#16 = .ok (.abs 6#5) := by decide
theorem test_decode_sext8 : decode 0x7C6B#16 = .ok (.sext8 11#5) := by decide
theorem test_decode_sext16 : decode 0x7C83#16 = .ok (.sext16 3#5) := by decide
theorem test_decode_rlc : decode 0x7CBC#16 = .ok (.rlc 28#5) := by decide
theorem test_decode_rrc : decode 0x7CDC#16 = .ok (.rrc 28#5) := by decide
theorem test_decode_swap : decode 0x7D03#16 = .ok (.swap 3#5) := by decide
theorem test_decode_usr1 : decode 0x7D31#16 = .ok (.usr1 17#5) := by decide
theorem test_decode_usr2 : decode 0x7D4B#16 = .ok (.usr2 11#5) := by decide
theorem test_decode_usr3 : decode 0x7D71#16 = .ok (.usr3 17#5) := by decide
theorem test_decode_usr4 : decode 0x7D80#16 = .ok (.usr4 0#5) := by decide
theorem test_decode_restore : decode 0x7DA0#16 = .ok .restore := by decide
theorem test_decode_tret : decode 0x7DCF#16 = .ok (.tret 15#5) := by decide
theorem test_decode_st8d : decode 0x7E0B#16 = .ok (.st8d 11#5) := by decide
theorem test_decode_st16d : decode 0x7E2B#16 = .ok (.st16d 11#5) := by decide
theorem test_decode_fill8 : decode 0x7E4B#16 = .ok (.fill8 11#5) := by decide
theorem test_decode_fill16 : decode 0x7E7B#16 = .ok (.fill16 27#5) := by decide
theorem test_decode_mstep : decode 0x7E81#16 = .ok (.mstep 1#5) := by decide
theorem test_decode_mul : decode 0x7EBD#16 = .ok (.mul 29#5) := by decide
theorem test_decode_skprz : decode 0x7ECB#16 = .ok (.skprz 11#5) := by decide
theorem test_decode_skps : decode 0x7EE3#16 = .ok (.skps 3#4) := by decide
theorem test_decode_wrctl : decode 0x7F07#16 = .ok (.wrctl 7#5) := by decide
theorem test_decode_rdctl : decode 0x7F27#16 = .ok (.rdctl 7#5) := by decide
theorem test_decode_skprnz : decode 0x7F43#16 = .ok (.skprnz 3#5) := by decide
theorem test_decode_jmp : decode 0x7FCF#16 = .ok (.jmp 15#5) := by decide
theorem test_decode_call : decode 0x7FE0#16 = .ok (.call 0#5) := by decide
theorem test_decode_br : decode 0x87FC#16 = .ok (.br 2044#11) := by decide
theorem test_decode_bsr : decode 0x8804#16 = .ok (.bsr 4#11) := by decide
theorem test_decode_pfxio : decode 0x9003#16 = .ok (.pfxio 3#11) := by decide
theorem test_decode_pfx : decode 0x9803#16 = .ok (.pfx 3#11) := by decide
theorem test_decode_stp : decode 0xA863#16 = .ok (.stp 3#5 2#2 3#5) := by decide
theorem test_decode_ldp : decode 0xB86B#16 = .ok (.ldp 11#5 2#2 3#5) := by decide
theorem test_decode_sts : decode 0xC23D#16 = .ok (.sts 29#5 17#8) := by decide
theorem test_decode_lds : decode 0xE069#16 = .ok (.lds 9#5 3#8) := by decide

/-! ## One step of each instruction, on the operands of a vector -/

/-- V40.1 -/
theorem test_add : after (exec (.add 1#5 2#5) (start 0x07E30#32 [(1#5, 0x7FFFFFFF#32), (2#5, 0x00000001#32)])) (regFlags 1#5) =
    some (some 0x80000000#32, [true, true, false, false]) := by decide +kernel
/-- V40.3 -/
theorem test_add_carry : after (exec (.add 1#5 2#5) (start 0x07E30#32 [(1#5, 0x80000000#32), (2#5, 0x80000000#32)])) (regFlags 1#5) =
    some (some 0x0#32, [false, true, true, true]) := by decide +kernel
/-- V40.7 -/
theorem test_addi : after (exec (.addi 3#5 31#5) (prefixed 2047#11 (start 0x07E30#32 [(3#5, 0xFFFF0001#32)]))) (regFlags 3#5) =
    some (some 0x0#32, [false, false, true, true]) := by decide +kernel
/-- V40.9 -/
theorem test_sub : after (exec (.sub 1#5 2#5) (start 0x07E30#32 [(1#5, 0x80000000#32), (2#5, 0x00000001#32)])) (regFlags 1#5) =
    some (some 0x7FFFFFFF#32, [false, true, false, false]) := by decide +kernel
/-- V40.8 -/
theorem test_sub_borrow : after (exec (.sub 1#5 2#5) (start 0x07E30#32 [(1#5, 0x00000000#32), (2#5, 0x00000001#32)])) (regFlags 1#5) =
    some (some 0xFFFFFFFF#32, [true, false, false, true]) := by decide +kernel
/-- V40.11 -/
theorem test_subi : after (exec (.subi 21#5 6#5) (start 0x07E30#32 [(21#5, 0x00000005#32)])) (regFlags 21#5) =
    some (some 0xFFFFFFFF#32, [true, false, false, true]) := by decide +kernel
/-- V40.14 -/
theorem test_cmp : after (exec (.cmp 0#5 1#5) (start 0x07E30#32 [(0#5, 0x7FFFFFFF#32), (1#5, 0xFFFFFFFF#32)])) (regFlags 0#5) =
    some (some 0x7FFFFFFF#32, [true, true, false, true]) := by decide +kernel
/-- V40.16 -/
theorem test_cmpi : after (exec (.cmpi 28#5 8#5) (prefixed 31#11 (start 0x07E30#32 [(28#5, 0x000003E7#32)]))) (regFlags 28#5) =
    some (some 0x000003E7#32, [true, false, false, true]) := by decide +kernel
/-- V40.17 -/
theorem test_and : after (exec (.and 0#5 1#5) (start 0x07E35#32 [(0#5, 0xF0F0F0F0#32), (1#5, 0xFF00FF00#32)])) (regFlags 0#5) =
    some (some 0xF000F000#32, [true, true, false, true]) := by decide +kernel
/-- V40.19 -/
theorem test_and_prefixed : after (exec (.and 0#5 5#5) (prefixed 0#11 (start 0x07E30#32 [(0#5, 0xFFFFFFFF#32), (5#5, 0x00000000#32)]))) (regFlags 0#5) =
    some (some 0x5#32, [false, false, false, false]) := by decide +kernel
/-- V40.22 -/
theorem test_andn : after (exec (.andn 0#5 0#5) (prefixed 512#11 (start 0x07E30#32 [(0#5, 0xFFFFFFFF#32)]))) (regFlags 0#5) =
    some (some 0xFFFFBFFF#32, [true, false, false, false]) := by decide +kernel
/-- V40.23 -/
theorem test_or : after (exec (.or 24#5 25#5) (start 0x07E30#32 [(24#5, 0x80000000#32), (25#5, 0x00000001#32)])) (regFlags 24#5) =
    some (some 0x80000001#32, [true, false, false, false]) := by decide +kernel
/-- V40.25 -/
theorem test_xor : after (exec (.xor 0#5 1#5) (start 0x07E39#32 [(0#5, 0xAAAA5555#32), (1#5, 0xAAAA5555#32)])) (regFlags 0#5) =
    some (some 0x0#32, [false, false, true, true]) := by decide +kernel
/-- V40.28 -/
theorem test_not : after (exec (.not 12#5) (start 0x07E36#32 [(12#5, 0x00FF00FF#32)])) (regFlags 12#5) =
    some (some 0xFF00FF00#32, [false, true, true, false]) := by decide +kernel
/-- V40.30 -/
theorem test_neg : after (exec (.neg 12#5) (start 0x07E30#32 [(12#5, 0x80000000#32)])) (regFlags 12#5) =
    some (some 0x80000000#32, [false, false, false, false]) := by decide +kernel
/-- V40.31 -/
theorem test_abs : after (exec (.abs 6#5) (start 0x07E30#32 [(6#5, 0xFFFFFFFB#32)])) (regFlags 6#5) =
    some (some 0x5#32, [false, false, false, false]) := by decide +kernel
/-- V40.34 -/
theorem test_mul : after (exec (.mul 29#5) (start 0x07E30#32 [(0#5, 0x0000FFFF#32), (29#5, 0x0000FFFF#32)])) (regFlags 0#5) =
    some (some 0xFFFE0001#32, [false, false, false, false]) := by decide +kernel
/-- V40.38 -/
theorem test_mstep : after (exec (.mstep 1#5) (start 0x07E30#32 [(0#5, 0xFFFFFFFF#32), (1#5, 0xFFFFFFFF#32)])) (regFlags 0#5) =
    some (some 0xFFFFFFFD#32, [false, false, false, false]) := by decide +kernel
/-- V40.37 -/
theorem test_mstep_clear : after (exec (.mstep 1#5) (start 0x07E30#32 [(0#5, 0x40000001#32), (1#5, 0x00000005#32)])) (regFlags 0#5) =
    some (some 0x80000002#32, [false, false, false, false]) := by decide +kernel
/-- V41.1 -/
theorem test_lsl : after (exec (.lsl 19#5 0#5) (start 0x07E30#32 [(19#5, 0x80000001#32), (0#5, 0xFFFFFFE1#32)])) (regFlags 19#5) =
    some (some 0x2#32, [false, false, false, false]) := by decide +kernel
/-- V41.4 -/
theorem test_lsli : after (exec (.lsli 25#5 6#5) (prefixed 1#11 (start 0x07E30#32 [(25#5, 0x03000001#32)]))) (regFlags 25#5) =
    some (some 0xC0000040#32, [false, false, false, false]) := by decide +kernel
/-- V41.6 -/
theorem test_lsr : after (exec (.lsr 19#5 0#5) (start 0x07E30#32 [(19#5, 0x80000000#32), (0#5, 0x0000001F#32)])) (regFlags 19#5) =
    some (some 0x1#32, [false, false, false, false]) := by decide +kernel
/-- V41.7 -/
theorem test_lsri : after (exec (.lsri 1#5 6#5) (start 0x07E30#32 [(1#5, 0x80000040#32)])) (regFlags 1#5) =
    some (some 0x02000001#32, [false, false, false, false]) := by decide +kernel
/-- V41.9 -/
theorem test_asr : after (exec (.asr 19#5 0#5) (start 0x07E30#32 [(19#5, 0x80000000#32), (0#5, 0x0000001F#32)])) (regFlags 19#5) =
    some (some 0xFFFFFFFF#32, [false, false, false, false]) := by decide +kernel
/-- V41.11 -/
theorem test_asri : after (exec (.asri 29#5 6#5) (start 0x07E30#32 [(29#5, 0xFFFFF000#32)])) (regFlags 29#5) =
    some (some 0xFFFFFFC0#32, [false, false, false, false]) := by decide +kernel
/-- V41.14 -/
theorem test_rlc : after (exec (.rlc 28#5) (start 0x07E3F#32 [(28#5, 0x00000001#32)])) (regFlags 28#5) =
    some (some 0x3#32, [true, true, true, false]) := by decide +kernel
/-- V41.16 -/
theorem test_rrc : after (exec (.rrc 28#5) (start 0x07E31#32 [(28#5, 0x00000002#32)])) (regFlags 28#5) =
    some (some 0x80000001#32, [false, false, false, false]) := by decide +kernel
/-- V41.18 -/
theorem test_mov : after (exec (.mov 8#5 19#5) (start 0x07E3A#32 [(19#5, 0xDEADBEEF#32)])) (regFlags 8#5) =
    some (some 0xDEADBEEF#32, [true, false, true, false]) := by decide +kernel
/-- V41.22 -/
theorem test_movi : after (exec (.movi 11#5 31#5) (prefixed 2047#11 (start 0x07E30#32 []))) (regFlags 11#5) =
    some (some 0xFFFF#32, [false, false, false, false]) := by decide +kernel
/-- V41.24 -/
theorem test_movhi : after (exec (.movhi 3#5 4#5) (prefixed 3#11 (start 0x07E30#32 [(3#5, 0xAAAA5555#32)]))) (regFlags 3#5) =
    some (some 0x00645555#32, [false, false, false, false]) := by decide +kernel
/-- V41.27 -/
theorem test_bgen : after (exec (.bgen 7#5 31#5) (start 0x07E30#32 [])) (regFlags 7#5) =
    some (some 0x80000000#32, [false, false, false, false]) := by decide +kernel
/-- V41.28 -/
theorem test_swap : after (exec (.swap 3#5) (start 0x07E30#32 [(3#5, 0x12345678#32)])) (regFlags 3#5) =
    some (some 0x56781234#32, [false, false, false, false]) := by decide +kernel
/-- V41.29 -/
theorem test_sext8 : after (exec (.sext8 11#5) (start 0x07E30#32 [(11#5, 0x12345680#32)])) (regFlags 11#5) =
    some (some 0xFFFFFF80#32, [false, false, false, false]) := by decide +kernel
/-- V41.31 -/
theorem test_sext16 : after (exec (.sext16 3#5) (start 0x07E30#32 [(3#5, 0x00018000#32)])) (regFlags 3#5) =
    some (some 0xFFFF8000#32, [false, false, false, false]) := by decide +kernel
/-- V41.35 -/
theorem test_ext8d : after (exec (.ext8d 3#5 3#5) (start 0x07E30#32 [(3#5, 0x48534941#32)])) (regFlags 3#5) =
    some (some 0x49#32, [false, false, false, false]) := by decide +kernel
/-- V41.36 -/
theorem test_ext8s : after (exec (.ext8s 6#5 3#2) (start 0x07E30#32 [(6#5, 0x48534946#32)])) (regFlags 6#5) =
    some (some 0x48#32, [false, false, false, false]) := by decide +kernel
/-- V41.38 -/
theorem test_ext16d : after (exec (.ext16d 27#5 28#5) (start 0x07E30#32 [(27#5, 0x48534946#32), (28#5, 0x00001202#32)])) (regFlags 27#5) =
    some (some 0x4853#32, [false, false, false, false]) := by decide +kernel
/-- V41.41 -/
theorem test_ext16s : after (exec (.ext16s 19#5 0#1) (start 0x07E30#32 [(19#5, 0x48534946#32)])) (regFlags 19#5) =
    some (some 0x4946#32, [false, false, false, false]) := by decide +kernel
/-- V41.44 -/
theorem test_fill8 : after (exec (.fill8 0#5) (start 0x07E30#32 [(0#5, 0x000001A5#32)])) (regFlags 0#5) =
    some (some 0xA5A5A5A5#32, [false, false, false, false]) := by decide +kernel
/-- V41.43 -/
theorem test_fill16 : after (exec (.fill16 27#5) (start 0x07E30#32 [(27#5, 0x1234BEEF#32)])) (regFlags 0#5) =
    some (some 0xBEEFBEEF#32, [false, false, false, false]) := by decide +kernel
/-- V42.2 -/
theorem test_ld : after (exec (.ld 3#5 12#5) (startMem 0x07E30#32 [(12#5, 0x00002007#32)] [(0x1FFC, 0xFFFEFDFC#32), (0x2000, 0x03020100#32), (0x2004, 0x07060504#32), (0x200C, 0x0F0E0D0C#32)])) (reg 3#5) =
    some (some 0x07060504#32) := by decide +kernel
/-- V42.4 -/
theorem test_ld_negative : after (exec (.ld 0#5 27#5) (prefixed 2047#11 (startMem 0x07E30#32 [(27#5, 0x00002003#32)] [(0x1FFC, 0xFFFEFDFC#32), (0x2000, 0x03020100#32), (0x2004, 0x07060504#32), (0x200C, 0x0F0E0D0C#32)]))) (reg 0#5) =
    some (some 0xFFFEFDFC#32) := by decide +kernel
/-- V42.10 -/
theorem test_ldp : after (exec (.ldp 11#5 0#2 31#5) (prefixed 2047#11 (startMem 0x07E30#32 [(16#5, 0x00002001#32)] [(0x1FFC, 0xFFFEFDFC#32), (0x2000, 0x03020100#32), (0x2004, 0x07060504#32), (0x200C, 0x0F0E0D0C#32)]))) (reg 11#5) =
    some (some 0xFFFEFDFC#32) := by decide +kernel
/-- V42.14 -/
theorem test_lds : after (exec (.lds 9#5 0#8) (prefixed 5#11 (startMem 0x07E30#32 [(14#5, 0x00002000#32)] [(0x1FFC, 0xFFFEFDFC#32), (0x2000, 0x03020100#32), (0x2004, 0x07060504#32), (0x200C, 0x0F0E0D0C#32)]))) (reg 9#5) =
    some (some 0x03020100#32) := by decide +kernel
/-- V42.15 -/
theorem test_st : after (exec (.st 27#5 0#5) (startMem 0x07E30#32 [(0#5, 0x00002006#32), (27#5, 0xCAFEBABE#32)] [(0x1FFC, 0xFFFEFDFC#32), (0x2000, 0x03020100#32), (0x2004, 0x07060504#32), (0x200C, 0x0F0E0D0C#32)])) (fun s => s.mem.readWord 0x2004) =
    some 0xCAFEBABE#32 := by decide +kernel
/-- V42.17 -/
theorem test_stp : after (exec (.stp 3#5 2#2 3#5) (startMem 0x07E30#32 [(18#5, 0x00002000#32), (3#5, 0x11223344#32)] [(0x1FFC, 0xFFFEFDFC#32), (0x2000, 0x03020100#32), (0x2004, 0x07060504#32), (0x200C, 0x0F0E0D0C#32)])) (fun s => s.mem.readWord 0x200C) =
    some 0x11223344#32 := by decide +kernel
/-- V42.19 -/
theorem test_sts : after (exec (.sts 29#5 17#8) (startMem 0x07E30#32 [(14#5, 0x00002000#32), (29#5, 0x55667788#32)] [(0x1FFC, 0xFFFEFDFC#32), (0x2000, 0x03020100#32), (0x2004, 0x07060504#32), (0x200C, 0x0F0E0D0C#32)])) (fun s => s.mem.readWord 0x2044) =
    some 0x55667788#32 := by decide +kernel
/-- V42.21 -/
theorem test_st8d : after (exec (.st8d 12#5) (startMem 0x07E30#32 [(12#5, 0x00002001#32), (0#5, 0xDDCCBBAA#32)] [(0x1FFC, 0xFFFEFDFC#32), (0x2000, 0x03020100#32), (0x2004, 0x07060504#32), (0x200C, 0x0F0E0D0C#32)])) (fun s => s.mem.readWord 0x2000) =
    some 0x0302BB00#32 := by decide +kernel
/-- V42.25 -/
theorem test_st16d : after (exec (.st16d 11#5) (startMem 0x07E30#32 [(11#5, 0x00002003#32), (0#5, 0xDDCCBBAA#32)] [(0x1FFC, 0xFFFEFDFC#32), (0x2000, 0x03020100#32), (0x2004, 0x07060504#32), (0x200C, 0x0F0E0D0C#32)])) (fun s => s.mem.readWord 0x2000) =
    some 0xDDCC0100#32 := by decide +kernel
/-- V42.28 -/
theorem test_st8s : after (exec (.st8s 4#5 1#2) (startMem 0x07E30#32 [(4#5, 0x00002002#32), (0#5, 0xDDCCBBAA#32)] [(0x1FFC, 0xFFFEFDFC#32), (0x2000, 0x03020100#32), (0x2004, 0x07060504#32), (0x200C, 0x0F0E0D0C#32)])) (fun s => s.mem.readWord 0x2000) =
    some 0x0302BB00#32 := by decide +kernel
/-- V42.31 -/
theorem test_st16s : after (exec (.st16s 4#5 1#1) (prefixed 2047#11 (startMem 0x07E30#32 [(4#5, 0x00002004#32), (0#5, 0xDDCCBBAA#32)] [(0x1FFC, 0xFFFEFDFC#32), (0x2000, 0x03020100#32), (0x2004, 0x07060504#32), (0x200C, 0x0F0E0D0C#32)]))) (fun s => s.mem.readWord 0x2000) =
    some 0xDDCC0100#32 := by decide +kernel
/-- V42.33 -/
theorem test_sts8s : after (exec (.sts8s 3#10) (startMem 0x07E30#32 [(14#5, 0x00002001#32), (0#5, 0xDDCCBBAA#32)] [(0x1FFC, 0xFFFEFDFC#32), (0x2000, 0x03020100#32), (0x2004, 0x07060504#32), (0x200C, 0x0F0E0D0C#32)])) (fun s => s.mem.readWord 0x2004) =
    some 0xDD060504#32 := by decide +kernel
/-- V42.35 -/
theorem test_sts16s : after (exec (.sts16s 6#9) (startMem 0x07E30#32 [(14#5, 0x00002000#32), (0#5, 0xDDCCBBAA#32)] [(0x1FFC, 0xFFFEFDFC#32), (0x2000, 0x03020100#32), (0x2004, 0x07060504#32), (0x200C, 0x0F0E0D0C#32)])) (fun s => s.mem.readWord 0x200C) =
    some 0x0F0EBBAA#32 := by decide +kernel
/-- V43.1 -/
theorem test_pfx : after (exec (.pfx 3#11) (start 0x07E30#32 [])) (fun s => (s.k, s.pfx, s.iobyp)) =
    some (3#11, true, false) := by decide +kernel
/-- 43_prefix_skip.md rule R251 -/
theorem test_pfxio : after (exec (.pfxio 3#11) (start 0x07E30#32 [])) (fun s => (s.k, s.pfx, s.iobyp)) =
    some (3#11, true, true) := by decide +kernel
/-- V43.10 -/
theorem test_skp0 : after (exec (.skp0 6#5 31#5) (startMem 0x07E30#32 [(6#5, 0x7FFFFFFF#32)] [(0x1000, 0x98010000#32)])) State.pc =
    some 0x1006#32 := by decide +kernel
/-- V43.7 -/
theorem test_skp0_not : after (exec (.skp0 6#5 11#5) (start 0x07E30#32 [(6#5, 0x00000800#32)])) State.pc =
    some 0x1002#32 := by decide +kernel
/-- V43.8 -/
theorem test_skp1 : after (exec (.skp1 11#5 21#5) (start 0x07E30#32 [(11#5, 0x00200000#32)])) State.pc =
    some 0x1004#32 := by decide +kernel
/-- V43.9 -/
theorem test_skp1_not : after (exec (.skp1 11#5 21#5) (start 0x07E30#32 [(11#5, 0xFFDFFFFF#32)])) State.pc =
    some 0x1002#32 := by decide +kernel
/-- V43.12 -/
theorem test_skprz : after (exec (.skprz 11#5) (start 0x07E30#32 [(11#5, 0x00000000#32)])) State.pc =
    some 0x1004#32 := by decide +kernel
/-- V43.13 -/
theorem test_skprz_not : after (exec (.skprz 11#5) (start 0x07E30#32 [(11#5, 0x80000000#32)])) State.pc =
    some 0x1002#32 := by decide +kernel
/-- V43.14 -/
theorem test_skprnz : after (exec (.skprnz 3#5) (startMem 0x07E30#32 [(3#5, 0x00000001#32)] [(0x1000, 0x90010000#32)])) State.pc =
    some 0x1006#32 := by decide +kernel
/-- V43.15 -/
theorem test_skprnz_not : after (exec (.skprnz 3#5) (start 0x07E30#32 [(3#5, 0x00000000#32)])) State.pc =
    some 0x1002#32 := by decide +kernel
/-- V43.23 -/
theorem test_skps_ge : after (exec (.skps 6#4) (start 0x07E3C#32 [])) State.pc =
    some 0x1004#32 := by decide +kernel
/-- V43.27 -/
theorem test_skps_le_not : after (exec (.skps 8#4) (start 0x07E3C#32 [])) State.pc =
    some 0x1002#32 := by decide +kernel
/-- V44.5 -/
theorem test_br : after (exec (.br 0x400#11) (start 0x07E30#32 [])) (fun s => (s.pc, s.delay)) =
    some (0x1002#32, some 0x802#32) := by decide +kernel
/-- V44.6 -/
theorem test_bsr : after (exec (.bsr 7#11) (start 0x07E30#32 [])) (fun s => (reg 15#5 s, s.delay)) =
    some (some 0x802#32, some 0x1010#32) := by decide +kernel
/-- V44.8 -/
theorem test_jmp : after (exec (.jmp 1#5) (start 0x07E30#32 [(1#5, 0x80000804#32)])) (fun s => (s.pc, s.delay)) =
    some (0x1002#32, some 0x1008#32) := by decide +kernel
/-- V44.10 -/
theorem test_call : after (exec (.call 15#5) (start 0x07E30#32 [(15#5, 0x00000808#32)])) (fun s => (reg 15#5 s, s.delay)) =
    some (some 0x802#32, some 0x1010#32) := by decide +kernel
/-- V45.1 -/
theorem test_save : after (exec (.save 23#8) (startMem 0x07E30#32 [(14#5, 0x00008000#32)] [])) (fun s => (s.status.toWord, reg 14#5 s, reg 30#5 s)) =
    some (0x07E20#32, some 0x7FA4#32, some 0x8000#32) := by decide +kernel
/-- V45.7 -/
theorem test_save_underflow : after (exec (.save 4#8) (startMem 0x08412#32 [(14#5, 0x00008000#32)] [(0x104, 0x400#32)])) (fun s => (s.status.toWord, s.istatus.toWord, reg 15#5 s, s.pc)) =
    some (0x00202#32, 0x08402#32, some 0x801#32, 0x800#32) := by decide +kernel
/-- V45.13 -/
theorem test_restore : after (exec .restore (startMem 0x084E9#32 [] [])) (fun s => (s.status.toWord, s.istatus.toWord)) =
    some (0x084F9#32, 0#32) := by decide +kernel
/-- V45.14 -/
theorem test_restore_overflow : after (exec .restore (startMem 0x086E9#32 [] [(0x108, 0x500#32)])) (fun s => (s.status.toWord, s.istatus.toWord, reg 15#5 s, s.pc)) =
    some (0x004E9#32, 0x086F9#32, some 0x801#32, 0xA00#32) := by decide +kernel
/-- V45.20 -/
theorem test_trap : after (exec (.trap 5#6) (startMem 0x0FE35#32 [] [(0x114, 0x812#32)])) (fun s => (s.status.toWord, s.istatus.toWord, reg 15#5 s, s.pc)) =
    some (0x00A25#32, 0x0FE35#32, some 0x801#32, 0x1024#32) := by decide +kernel
/-- V45.21 -/
theorem test_trap_masked : after (exec (.trap 63#6) (startMem 0x07E30#32 [] [(0x1FC, 0x900#32)])) (fun s => (s.status.toWord, s.pc)) =
    some (0x07E20#32, 0x1200#32) := by decide +kernel
/-- V45.27 -/
theorem test_tret : after (exec (.tret 1#5) (startMem 0x0FE3F#32 [(1#5, 0x00000900#32)] [])) (fun s => (s.status.toWord, s.pc)) =
    some (0#32, 0x1200#32) := by decide +kernel
/-- V45.28 -/
theorem test_rdctl : after (exec (.rdctl 7#5) (startMem 0x08A3A#32 [] [])) (reg 7#5) =
    some (some 0x08A3A#32) := by decide +kernel
/-- V45.29 -/
theorem test_rdctl_wvalid : after (exec (.rdctl 7#5) (prefixed 2#11 (startMem 0x07E30#32 [] []))) (reg 7#5) =
    some (some 0x1C1#32) := by decide +kernel
/-- V45.36 -/
theorem test_wrctl : after (exec (.wrctl 7#5) (startMem 0x07E30#32 [(7#5, 0xFFFCFE3A#32)] [])) (fun s => (s.status.toWord, s.nopdue)) =
    some (0x0FE3A#32, true) := by decide +kernel
/-- V45.45 -/
theorem test_wrctl_set_ie : after (exec (.wrctl 0#5) (prefixed 9#11 (startMem 0x07E3A#32 [(0#5, 0x00001234#32)] []))) (fun s => s.status.toWord) =
    some 0x0FE3A#32 := by decide +kernel
/-- A state for the custom instructions: K = 9, %L1, %g2 and %g0 set. -/
@[irreducible] def custom : State := prefixed 9#11 (start 0x07E30#32 [(17#5, 0xFF00#32), (2#5, 0x14#32), (0#5, 0xFF0#32)])

/-- 46_custom.md rule R311: the operands of the free operation, and where its result goes -/
theorem test_usr0 : exec (.usr0 17#5 2#5) custom =
    .next (custom.setRegs (custom.regs.set (phys custom.status.cwp 17#5)
      (Config.usrFn 0 0xFF00#32 0x14#32 custom.k))).retire :=
  plain_of (by decide +kernel) (combine_of_read _ (readReg_iff.mpr (by decide +kernel))
    (readReg_iff.mpr (by decide +kernel)))
/-- 46_custom.md rule R312: the operands of the free operation, and where its result goes -/
theorem test_usr1 : exec (.usr1 17#5) custom =
    .next (custom.setRegs (custom.regs.set (phys custom.status.cwp 17#5)
      (Config.usrFn 1 0xFF00#32 0xFF0#32 custom.k))).retire :=
  plain_of (by decide +kernel) (combine_of_read _ (readReg_iff.mpr (by decide +kernel))
    (readReg_iff.mpr (by decide +kernel)))
/-- 46_custom.md rule R313: the operands of the free operation, and where its result goes -/
theorem test_usr2 : exec (.usr2 17#5) custom =
    .next (custom.setRegs (custom.regs.set (phys custom.status.cwp 17#5)
      (Config.usrFn 2 0xFF00#32 0xFF0#32 custom.k))).retire :=
  plain_of (by decide +kernel) (combine_of_read _ (readReg_iff.mpr (by decide +kernel))
    (readReg_iff.mpr (by decide +kernel)))
/-- 46_custom.md rule R314: the operands of the free operation, and where its result goes -/
theorem test_usr3 : exec (.usr3 17#5) custom =
    .next (custom.setRegs (custom.regs.set (phys custom.status.cwp 17#5)
      (Config.usrFn 3 0xFF00#32 0xFF0#32 custom.k))).retire :=
  plain_of (by decide +kernel) (combine_of_read _ (readReg_iff.mpr (by decide +kernel))
    (readReg_iff.mpr (by decide +kernel)))
/-- 46_custom.md rule R315: the operands of the free operation, and where its result goes -/
theorem test_usr4 : exec (.usr4 17#5) custom =
    .next (custom.setRegs (custom.regs.set (phys custom.status.cwp 17#5)
      (Config.usrFn 4 0xFF00#32 0xFF0#32 custom.k))).retire :=
  plain_of (by decide +kernel) (combine_of_read _ (readReg_iff.mpr (by decide +kernel))
    (readReg_iff.mpr (by decide +kernel)))

/-! ## Whole steps -/

/-- The first step after reset runs the word placed for it: `ADDI %g3,5` (V40.5). -/
theorem test_first_step : after (step (State.reset.withFetchWord 16 0x04A3)) (fun s => (reg 3#5 s, s.pc)) =
    some (some 5#32, 0x1002#32) := by decide +kernel

/-- V60.12: request 62 with IPRI = 63, vector 0xA00. -/
theorem test_interrupt : after (step { startMem 0x0FE30#32 [] [(0x1F8, 0xA00#32)] with irqTrace := [⟨true, 62#6⟩] })
    (fun s => (s.status.toWord, s.istatus.toWord, reg 15#5 s, s.pc)) =
    some (0x07C20#32, 0x0FE30#32, some 0x800#32, 0x1400#32) := by decide +kernel


/-! ## A state that meets the hypotheses of each statement

One theorem for each statement, with one witness for each clause at a boundary of its range where it has several. -/

theorem holds_of {s : State} {r : RegNum} {v : Word} (h : s.regs[phys s.status.cwp r]? = some v) : Holds s r v := h

theorem exists_reg {s : State} {r : RegNum} (h : phys s.status.cwp r < s.regs.length) : RegExists s r := h

theorem busWord_ram {s : State} {a v : Word} (h : s.regionOf a.toNat 4 = .ok .ram) (hv : s.mem.readWord a.toNat = v) :
    BusWord s a v s.freeCtr :=
  .inl ⟨.ram, h, by decide, rfl, hv.symm⟩

theorem busWord_device {s : State} {a : Word} (h : s.regionOf a.toNat 4 = .ok .device) :
    BusWord s a (Config.freeWord s.freeCtr) (s.freeCtr + 1) :=
  .inr ⟨h, rfl, rfl⟩

theorem busHalf_ram {s : State} {a : Word} {v : Half} (h : s.regionOf a.toNat 2 = .ok .ram)
    (hv : s.mem.readHalf a.toNat = v) : BusHalf s a v s.freeCtr :=
  .inl ⟨.ram, h, by decide, rfl, hv.symm⟩

theorem busHalf_device {s : State} {a : Word} (h : s.regionOf a.toNat 2 = .ok .device) :
    BusHalf s a ((Config.freeWord s.freeCtr).setWidth 16) (s.freeCtr + 1) :=
  .inr ⟨h, rfl, rfl⟩

theorem unmapped_of {s : State} {a : Word} {n : Nat} (h : s.cfg.mapped a.toNat n = false) : Unmapped s a n := by
  intro r hr hm
  have := List.any_eq_false.mp h r hr
  simp only [decide_eq_true_eq] at this
  exact this hm

/-- A configuration with both caches, and a map with RAM, ROM, a peripheral and a hole. -/
def mapped : Config :=
  { Config.standard with
    hasDCache := true
    dcacheSize := 16
    hasICache := true
    icacheSize := 64
    memMap := [{ base := 0, size := 0x10000, kind := .ram }, { base := 0x10000, size := 0x1000, kind := .rom },
      { base := 0x20000, size := 0x1000, kind := .device }] }

/-- Reset in that configuration, window 3, with DC and IC as given. -/
def mappedState (dc ic : Bool) : State :=
  { State.resetOf mapped with status := { Status.ofWord 0x07E30#32 with dc := dc, ic := ic } }

/-- Reset in that configuration with the vector table in the hole, STATUS = `st`. -/
def noVectors (st : Word) : State :=
  { State.resetOf { mapped with vecBase := 0x12000#32 } with status := Status.ofWord st }

/-- Window 3, every register 0, IE = 0. -/
def plain : State := start 0x07E30#32 []

/-- The same with IE = 1 and every interrupt enabled. -/
def enabled : State := start 0x0FE30#32 []

theorem witness_DecodeEncode : (Instr.skps 13#4).wellFormed = true ∧ (Instr.ldp 31#5 3#2 31#5).wellFormed = true := by
  decide

theorem witness_EncodeDecode : decode 0xFFFF#16 = .ok (.lds 31#5 255#8) ∧ decode 0#16 = .ok (.add 0#5 0#5) := by decide

theorem witness_ReservedWordsRejected :
    (0b111#3 ∈ [0b010#3, 0b011#3, 0b110#3, 0b111#3]) ∧ 1#2 ≠ 0#2 ∧ (0b10#2 ∈ [0b10#2, 0b11#2]) ∧
    (0b11101#5 ∈ [0b00111#5, 0b01111#5, 0b11011#5, 0b11100#5, 0b11101#5]) ∧ 1#5 ≠ 0#5 := by decide

/-- Without a NOP due, and with one due and fetched. -/
theorem witness_StepRunsDecodedInstruction :
    (∀ s ∈ [plain, { plain with nopdue := true, mem := [(0x1001, 0x30#8)] }],
      ¬ (s.sampleInputs.irq = true ∧ s.sampleInputs.irqNumber = 0#6) ∧
      ¬ (s.sampleInputs.irq = true ∧ s.sampleInputs.status.ie = true ∧
        s.sampleInputs.irqNumber.toNat < s.sampleInputs.status.ipri.toNat ∧ s.sampleInputs.pfx = false ∧
        s.sampleInputs.delay = none ∧ s.sampleInputs.nopdue = false)) ∧
    plain.fetch plain.pc = .ok (0#16, plain) ∧ decode 0#16 = .ok (.add 0#5 0#5) ∧
    ({ plain with nopdue := true, mem := [(0x1001, 0x30#8)] } : State).fetch 0x1000#32 =
      .ok (0x3000#16, { plain with nopdue := true, mem := [(0x1001, 0x30#8)] }) ∧
    decode 0x3000#16 = .ok (.mov 0#5 0#5) := by decide +kernel

/-- Numbers 1 and 62, the lowest and the highest below IPRI = 63. -/
theorem witness_StepTakesInterrupt : ∀ n ∈ [1#6, 62#6],
    ∃ s : State, ∃ v f, s.sampleInputs.irq = true ∧ s.sampleInputs.irqNumber = n ∧ n ≠ 0#6 ∧
      s.sampleInputs.status.ie = true ∧ n.toNat < s.sampleInputs.status.ipri.toNat ∧ s.sampleInputs.pfx = false ∧
      s.sampleInputs.delay = none ∧ s.sampleInputs.nopdue = false ∧
      phys (s.sampleInputs.status.cwp - 1#5) 15#5 < s.sampleInputs.regs.length ∧
      BusWord s.sampleInputs (s.sampleInputs.cfg.vecBase + n.setWidth 32 * 4#32) v f := by
  intro n hn
  refine ⟨{ enabled with irq := true, irqNumber := n }, 0#32, 0, rfl, rfl, ?_⟩
  simp only [List.mem_cons, List.not_mem_nil, or_false] at hn
  rcases hn with rfl | rfl <;>
    exact ⟨by decide, by decide +kernel, by decide +kernel, by decide +kernel, by decide +kernel, by decide +kernel,
      by decide +kernel, busWord_ram (by decide +kernel) (by decide +kernel)⟩

/-- A debug request; a fetch from a hole of the map; a missing NOP; a word that is no instruction; an interrupt at CWP = 0,
where %o7 of window 31 would be register 511 of 256; an interrupt whose vector lies in the hole. -/
theorem witness_StepStops :
    (({ plain with irq := true } : State).irq = true ∧ ({ plain with irq := true } : State).irqNumber = 0#6) ∧
    ({ mappedState false false with pc := 0x12000#32 } : State).fetch 0x12000#32 = .error .unmapped ∧
    ({ plain with nopdue := true } : State).fetch 0x1000#32 = .ok (0#16, { plain with nopdue := true }) ∧
    ({ plain with mem := [(0x1001, 0x7A#8)] } : State).fetch 0x1000#32 =
      .ok (0x7A00#16, { plain with mem := [(0x1001, 0x7A#8)] }) ∧
    decode 0x7A00#16 = .error .unusedOpcode ∧ plain.irq = false ∧ (mappedState false false).irq = false ∧
    (∀ s ∈ [{ start 0x0FE00#32 [] with irq := true, irqNumber := 62#6 }, { noVectors 0x0FE30#32 with irq := true, irqNumber := 1#6 }],
      s.sampleInputs.irq = true ∧ s.sampleInputs.irqNumber ≠ 0#6 ∧ s.sampleInputs.status.ie = true ∧
      s.sampleInputs.irqNumber.toNat < s.sampleInputs.status.ipri.toNat ∧ s.sampleInputs.pfx = false ∧
      s.sampleInputs.delay = none ∧ s.sampleInputs.nopdue = false) ∧
    (start 0x0FE00#32 []).regs.length ≤ phys ((start 0x0FE00#32 []).status.cwp - 1#5) 15#5 ∧
    phys ((noVectors 0x0FE30#32).status.cwp - 1#5) 15#5 < (noVectors 0x0FE30#32).regs.length ∧
    (noVectors 0x0FE30#32).cfg.mapped
      ((noVectors 0x0FE30#32).cfg.vecBase + (1#6 : BitVec 6).setWidth 32 * 4#32).toNat 4 = false := by
  decide +kernel

theorem witness_InvariantStep : Sound (mappedState true true) ∧ runs (step (mappedState false true)) = false ∧
    ∃ t, step (mappedState true false) = .next t := by
  refine ⟨?_, by decide +kernel, exists_of_runs (by decide +kernel)⟩
  exact {
    config := by decide +kernel
    memory := by decide +kernel
    registers := by decide +kernel
    pcEven := by decide +kernel
    delayEven := fun t h => by cases h
    kOnlyAfterPrefix := fun _ => rfl
    iobypIsPrefix := fun h => by cases h
    prefixNotInSlot := fun _ => rfl
    nopdueAlone := fun h => by cases h
    dcPresent := fun _ => rfl
    icPresent := fun _ => rfl
    savedDcPresent := fun _ => rfl
    savedIcPresent := fun _ => rfl
    dcacheForm := by decide +kernel
    dcacheLines := fun e h => by cases h
    icacheForm := by decide +kernel
    icacheLines := fun e h => by cases h }

theorem witness_InvariantReset : Config.standard.valid = true ∧ mapped.valid = true := by decide +kernel

theorem witness_PrefixStateClears : isPrefix (.add 1#5 2#5) = false ∧
    ∃ t, exec (.add 1#5 2#5) (prefixed 5#11 plain) = .next t :=
  ⟨rfl, exists_of_runs (by decide +kernel)⟩

theorem witness_OnlyStoresChangeMemory : isStore (.trap 5#6) = false ∧ ∃ t, exec (.trap 5#6) plain = .next t :=
  ⟨rfl, exists_of_runs (by decide +kernel)⟩

theorem witness_RegisterFrame : (∃ t, exec (.save 4#8) plain = .next t) ∧ 3 ∉ destinations (.save 4#8) 3#5 :=
  ⟨exists_of_runs (by decide +kernel), by decide⟩

theorem witness_FlagFrame : (∃ t, exec (.and 1#5 2#5) plain = .next t) ∧ (∃ t, exec (.rlc 1#5) plain = .next t) ∧
    (∃ t, exec (.wrctl 1#5) (prefixed 1#11 plain) = .next t) ∧ (∃ t, exec (.mov 1#5 2#5) plain = .next t) ∧
    (∃ t, exec (.tret 1#5) plain = .next t) ∧
    writesLogicFlags (.and 1#5 2#5) = true ∧ writesCarryOnly (.rlc 1#5) = true :=
  ⟨exists_of_runs (by decide +kernel), exists_of_runs (by decide +kernel), exists_of_runs (by decide +kernel),
    exists_of_runs (by decide +kernel), exists_of_runs (by decide +kernel), rfl, rfl⟩

theorem witness_StatusFrame : (∃ t, exec (.save 4#8) plain = .next t) ∧ (∃ t, exec (.add 1#5 2#5) plain = .next t) :=
  ⟨exists_of_runs (by decide +kernel), exists_of_runs (by decide +kernel)⟩

/-- Instructions that leave nopdue, set it (WRCTL with K = 0) and clear it (TRAP; SAVE at LO_LIMIT; RESTORE at HI_LIMIT);
a trace with a sample and one without. -/
theorem witness_SavedRegistersFrame : (∃ t, exec (.tret 4#5) plain = .next t) ∧
    (∃ t, exec (.wrctl 1#5) (prefixed 9#11 plain) = .next t) ∧ (∃ t, exec (.wrctl 1#5) plain = .next t) ∧
    (∃ t, exec (.trap 5#6) plain = .next t) ∧ (∃ t, exec (.save 0#8) plain = .next t) ∧
    (∃ t, exec (.save 0#8) (start 0x08410#32 []) = .next t) ∧ (∃ t, exec .restore plain = .next t) ∧
    (∃ t, exec .restore (start 0x086E0#32 []) = .next t) ∧
    plain.irqTrace = [] ∧ (∃ t, step plain = .next t) ∧
    (∃ t, step { plain with irqTrace := [{ irq := true, number := 63#6 }, { irq := false, number := 0#6 }] } = .next t) :=
  ⟨exists_of_runs (by decide +kernel), exists_of_runs (by decide +kernel), exists_of_runs (by decide +kernel),
    exists_of_runs (by decide +kernel), exists_of_runs (by decide +kernel), exists_of_runs (by decide +kernel),
    exists_of_runs (by decide +kernel), exists_of_runs (by decide +kernel), by decide +kernel,
    exists_of_runs (by decide +kernel), exists_of_runs (by decide +kernel)⟩

theorem witness_CacheFrame : (∃ t, exec (.skprz 4#5) (mappedState true false) = .next t) ∧
    (∃ t, exec (.st 4#5 5#5) (mappedState true false) = .next t) ∧
    (∃ t, exec (.wrctl 1#5) (prefixed 5#11 (mappedState true false)) = .next t) ∧ (prefixed 5#11 (mappedState true false)).k ≠ 7#11 :=
  ⟨exists_of_runs (by decide +kernel), exists_of_runs (by decide +kernel), exists_of_runs (by decide +kernel), by decide⟩

theorem witness_DelaySlotStops : slotForbidden (.br 0#11) = true ∧ ({ plain with delay := some 0#32 } : State).delay = some 0#32 :=
  ⟨rfl, rfl⟩

theorem witness_PrefixStops : isPrefix (.pfxio 0#11) = true ∧ (prefixed 1#11 plain).delay = none ∧
    (prefixed 1#11 plain).pfx = true ∧ isPrefix (.lds 1#5 0#8) = false ∧ mayFollowPfxio (.lds 1#5 0#8) = false ∧
    (plain.setPfx 1#11 true true).iobyp = true ∧ (plain.setPfx 1#11 true true).delay = none ∧
    slotForbidden (.lds 1#5 0#8) = false :=
  ⟨rfl, rfl, rfl, rfl, rfl, rfl, rfl, rfl⟩

/-- The undefined indices at their edges: 3, 4, 6 (for WRCTL), 10 and 2047. -/
theorem witness_UndefinedInstructionStops : plain.iobyp = false ∧ plain.delay = none ∧ Holds plain 1#5 0#32 ∧
    (prefixed 3#11 plain).k.toNat = 3 ∧ (prefixed 4#11 plain).k.toNat = 4 ∧ (prefixed 6#11 plain).k.toNat = 6 ∧
    10 ≤ (prefixed 10#11 plain).k.toNat ∧ 10 ≤ (prefixed 2047#11 plain).k.toNat ∧ (prefixed 2047#11 plain).iobyp = false ∧
    Holds (prefixed 2047#11 plain) 1#5 0#32 :=
  ⟨rfl, rfl, holds_of (by decide +kernel), rfl, rfl, rfl, by decide, by decide, rfl, holds_of (by decide +kernel)⟩

/-- Of 256 registers: in window 15 %L0 would be register 256, as A, as B and as the base of LDP; in window 16 %o0 would be
register 264, and so %sp and %o7 are missing there too; a SAVE from 16 needs window 15, a TRAP from 17 window 16; RESTORE
at HI_LIMIT = 16. -/
theorem witness_MissingRegisterStops :
    256 ∈ registersNeeded (.mov 16#5 0#5) false 15#5 ∧ 256 ∈ registersNeeded (.mov 0#5 16#5) false 15#5 ∧
    256 ∈ registersNeeded (.xor 0#5 16#5) false 15#5 ∧ 256 ∉ registersNeeded (.xor 0#5 16#5) true 15#5 ∧
    256 ∈ registersNeeded (.stp 0#5 0#2 0#5) false 15#5 ∧ 270 ∈ registersNeeded (.sts 0#5 0#8) false 16#5 ∧
    270 ∈ registersNeeded (.sts8s 0#10) false 16#5 ∧ 271 ∈ registersNeeded (.bsr 0#11) false 16#5 ∧
    271 ∈ registersNeeded (.call 0#5) false 16#5 ∧ 270 ∈ registersNeeded (.save 0#8) false 16#5 ∧
    271 ∈ registersNeeded (.trap 1#6) false 17#5 ∧ (start 0x07EF0#32 []).regs.length = 256 ∧
    (start 0x07EF0#32 []).status.cwp = 15#5 ∧ (start 0x07EF0#32 []).pfx = false ∧ (start 0x07EF0#32 []).iobyp = false ∧
    (start 0x07EF0#32 []).delay = none ∧ slotForbidden (.trap 1#6) = true ∧ slotForbidden (.mov 16#5 0#5) = false ∧
    phys 15#5 (pointerReg 0#2) = 256 ∧ phys 16#5 14#5 = 270 ∧
    Holds (start 0x07EF0#32 []) 0#5 0#32 ∧
    LoadsWord (start 0x07EF0#32 []) (align32 (0#32 + prefixOffset 0#11)) false 0#32 0 ∧
    (start 0x07EF0#32 []).k.toNat < 10 ∧
    ({ start 0x08700#32 [] with wvalid := { hiLimit := 16#5, loLimit := 1#5 } } : State).status.cwp = 16#5 ∧
    ({ start 0x08700#32 [] with wvalid := { hiLimit := 16#5, loLimit := 1#5 } } : State).status.ie = true ∧
    2 < ({ start 0x08700#32 [] with wvalid := { hiLimit := 16#5, loLimit := 1#5 } } : State).status.ipri.toNat ∧
    phys 16#5 15#5 = 271 :=
  ⟨by decide, by decide, by decide, by decide, by decide, by decide, by decide, by decide, by decide, by decide, by decide,
    by decide +kernel, by decide +kernel, rfl, rfl, rfl, rfl, rfl, by decide, by decide, holds_of (by decide +kernel),
    .inl ⟨.inl rfl, busWord_ram (by decide +kernel) (by decide +kernel)⟩, by decide +kernel, by decide +kernel,
    by decide +kernel, by decide +kernel, by decide⟩

/-- The Locals at both ends; and each way two registers coincide: a Global, the register itself, In with Out both ways. -/
theorem witness_WindowOverlap : (30#5 : BitVec 5) ≠ 31#5 ∧ (7#5 : RegNum).toNat < 8 ∧
    16 ≤ (16#5 : RegNum).toNat ∧ (23#5 : RegNum).toNat < 24 ∧ phys 3#5 23#5 = phys 3#5 23#5 ∧
    phys 3#5 7#5 = phys 31#5 7#5 ∧ phys 3#5 8#5 = phys 3#5 8#5 ∧ phys 3#5 24#5 = phys 4#5 8#5 ∧
    phys 31#5 15#5 = phys 30#5 31#5 := by decide

theorem witness_MemoryReadsBack : (3 < 4 ∨ 4 + 4 ≤ 3) ∧ (8 < 4 ∨ 4 + 4 ≤ 8) ∧ (6 < 4 ∨ 4 + 2 ≤ 6) := by decide

theorem witness_MemoryCanonical : Memory.wf [(1, 2#8), (0xFFFFFFFF, 3#8)] = true := by decide +kernel

/-- Past the cache (disabled, and bypassed), a hole, a hit, an unknown line, a miss on an invalid line and on another tag. -/
theorem witness_DataLoadCases :
    (mapped.valid = true ∧ mapped.hasDCache = true ∧ dindex mapped 0xFFFFFFFC#32 = dindex mapped 0xFFFFFFFF#32 ∧ dtag mapped 0xFFFFFFFC#32 = dtag mapped 0xFFFFFFFF#32) ∧
    (mappedState false false).status.dc = false ∧
    BusWord (mappedState false false) 0x2000#32 0#32 0 ∧
    BusWord (mappedState false false) 0x20000#32 (Config.freeWord 0) 1 ∧
    Unmapped (mappedState false false) 0x12000#32 4 ∧
    Unmapped ((mappedState true false).setDline 0x12000#32 .invalid) 0x12000#32 4 ∧
    ((mappedState true false).setDline 0x12000#32 .invalid).dline 0x12000#32 = .invalid ∧
    (mappedState true false).cfg.hasDCache = true ∧ (mappedState true false).status.dc = true ∧
    ((mappedState true false).setDline 0x2000#32 (.valid 0x200 7#32)).dline 0x2000#32 = .valid (dtag mapped 0x2000#32) 7#32 ∧
    (mappedState true false).dline 0x2000#32 = .unknown ∧
    ((mappedState true false).setDline 0x2000#32 .invalid).dline 0x2000#32 = .invalid ∧
    ((mappedState true false).setDline 0x2000#32 (.valid 0x200 7#32)).dline 0x2010#32 = .valid 0x200 7#32 ∧
    0x200 ≠ dtag mapped 0x2010#32 :=
  ⟨by decide +kernel, rfl, busWord_ram (by decide +kernel) (by decide +kernel), busWord_device (by decide +kernel),
    unmapped_of (by decide +kernel), unmapped_of (by decide +kernel), by decide +kernel, rfl, rfl,
    by decide +kernel, by decide +kernel, by decide +kernel, by decide +kernel, by decide +kernel⟩

/-- The same for a fetch. -/
theorem witness_FetchCases :
    (mapped.valid = true ∧ mapped.hasICache = true ∧ iindex mapped 0xFFFFFFFE#32 = iindex mapped 0xFFFFFFFE#32 ∧ itag mapped 0xFFFFFFFE#32 = itag mapped 0xFFFFFFFE#32) ∧
    (mappedState false false).status.ic = false ∧
    BusHalf (mappedState false false) 0x2000#32 0#16 0 ∧
    BusHalf (mappedState false false) 0x20000#32 ((Config.freeWord 0).setWidth 16) 1 ∧
    Unmapped (mappedState false false) 0x12000#32 2 ∧
    Unmapped ((mappedState false true).setIline 0x12000#32 .invalid) 0x12000#32 2 ∧
    ((mappedState false true).setIline 0x12000#32 .invalid).iline 0x12000#32 = .invalid ∧
    (mappedState false true).cfg.hasICache = true ∧ (mappedState false true).status.ic = true ∧
    ((mappedState false true).setIline 0x1010#32 (.valid 0x40 7#16)).iline 0x1010#32 = .valid (itag mapped 0x1010#32) 7#16 ∧
    (mappedState false true).iline 0x1010#32 = .unknown ∧
    ((mappedState false true).setIline 0x1010#32 .invalid).iline 0x1010#32 = .invalid ∧
    ((mappedState false true).setIline 0x1010#32 (.valid 0x40 7#16)).iline 0x1050#32 = .valid 0x40 7#16 ∧
    0x40 ≠ itag mapped 0x1050#32 :=
  ⟨by decide +kernel, rfl, busHalf_ram (by decide +kernel) (by decide +kernel), busHalf_device (by decide +kernel),
    unmapped_of (by decide +kernel), unmapped_of (by decide +kernel), by decide +kernel, rfl, rfl,
    by decide +kernel, by decide +kernel, by decide +kernel, by decide +kernel, by decide +kernel⟩

theorem witness_AdditionResult : plain.iobyp = false ∧ Holds plain 1#5 0#32 ∧ Holds plain 31#5 0#32 ∧ (0x1F#32 : Word) = (plain.k ++ 31#5).setWidth 32 :=
  ⟨rfl, holds_of (by decide +kernel), holds_of (by decide +kernel), by decide +kernel⟩

theorem witness_SubtractionResult : plain.iobyp = false ∧ Holds plain 1#5 0#32 ∧ Holds plain 31#5 0#32 ∧ (0x1F#32 : Word) = (plain.k ++ 31#5).setWidth 32 :=
  ⟨rfl, holds_of (by decide +kernel), holds_of (by decide +kernel), by decide +kernel⟩

theorem witness_CompareResult : plain.iobyp = false ∧ Holds plain 1#5 0#32 ∧ Holds plain 31#5 0#32 ∧ (0x1F#32 : Word) = (plain.k ++ 31#5).setWidth 32 :=
  ⟨rfl, holds_of (by decide +kernel), holds_of (by decide +kernel), by decide +kernel⟩

theorem witness_RegisterShiftResult : plain.iobyp = false ∧ Holds plain 1#5 0#32 ∧ Holds plain 31#5 0#32 :=
  ⟨rfl, holds_of (by decide +kernel), holds_of (by decide +kernel)⟩

theorem witness_MoveResult : plain.iobyp = false ∧ Holds plain 1#5 0#32 ∧ Holds plain 31#5 0#32 :=
  ⟨rfl, holds_of (by decide +kernel), holds_of (by decide +kernel)⟩

theorem witness_ExtractResult : plain.iobyp = false ∧ Holds plain 1#5 0#32 ∧ Holds plain 31#5 0#32 :=
  ⟨rfl, holds_of (by decide +kernel), holds_of (by decide +kernel)⟩

theorem witness_SkipConditionsAfterCompare : Holds plain 1#5 0#32 ∧ Holds plain 2#5 0#32 ∧
    ∃ t, exec (.cmp 1#5 2#5) plain = .next t :=
  ⟨holds_of (by decide +kernel), holds_of (by decide +kernel), exists_of_runs (by decide +kernel)⟩

/-- Without a prefix, and after one. -/
theorem witness_LogicResult : plain.iobyp = false ∧ Holds plain 1#5 0#32 ∧ plain.pfx = false ∧ Holds plain 2#5 0#32 ∧
    (prefixed 2047#11 plain).iobyp = false ∧ Holds (prefixed 2047#11 plain) 1#5 0#32 ∧ (prefixed 2047#11 plain).pfx = true ∧
    (0xFFE2#32 : Word) = ((prefixed 2047#11 plain).k ++ 2#5).setWidth 32 :=
  ⟨rfl, holds_of (by decide +kernel), rfl, holds_of (by decide +kernel), rfl, holds_of (by decide +kernel), rfl,
    by decide +kernel⟩

theorem witness_UnaryResult : plain.iobyp = false ∧ Holds plain 31#5 0#32 :=
  ⟨rfl, holds_of (by decide +kernel)⟩

theorem witness_ImmediateShiftResult : plain.iobyp = false ∧ Holds plain 31#5 0#32 :=
  ⟨rfl, holds_of (by decide +kernel)⟩

theorem witness_RotateResult : plain.iobyp = false ∧ Holds plain 31#5 0#32 :=
  ⟨rfl, holds_of (by decide +kernel)⟩

theorem witness_SignExtensionResult : plain.iobyp = false ∧ Holds plain 31#5 0#32 :=
  ⟨rfl, holds_of (by decide +kernel)⟩

theorem witness_MultiplyResult : plain.iobyp = false ∧ Holds plain 0#5 0#32 ∧ Holds plain 31#5 0#32 :=
  ⟨rfl, holds_of (by decide +kernel), holds_of (by decide +kernel)⟩

theorem witness_FillResult : plain.iobyp = false ∧ Holds plain 31#5 0#32 ∧ RegExists plain 0#5 :=
  ⟨rfl, holds_of (by decide +kernel), exists_reg (by decide +kernel)⟩

theorem witness_CustomResult : plain.iobyp = false ∧ Holds plain 1#5 0#32 ∧ Holds plain 2#5 0#32 ∧ Holds plain 0#5 0#32 :=
  ⟨rfl, holds_of (by decide +kernel), holds_of (by decide +kernel), holds_of (by decide +kernel)⟩

/-- A load past a disabled cache, one that hits, one that misses, one after PFXIO, and one from a peripheral; at address 0. -/
theorem witness_LoadResult :
    RegExists (mappedState true false) 31#5 ∧ Holds (mappedState true false) 14#5 0#32 ∧
    Holds (mappedState true false) (pointerReg 3#2) 0#32 ∧ (mappedState true false).iobyp = false ∧
    align32 (0#32 + prefixOffset (mappedState true false).k) = 0#32 ∧
    align32 (0#32 + pointerOffset (mappedState true false).k 0#5) = 0#32 ∧ align32 (0#32 + stackOffset 0#8) = 0#32 ∧
    LoadsWord (mappedState false false) 0#32 false 0#32 0 ∧
    LoadsWord ((mappedState true false).setDline 0#32 (.valid 0 7#32)) 0#32 false 7#32 0 ∧
    LoadsWord ((mappedState true false).setDline 0#32 .invalid) 0#32 false 0#32 0 ∧
    LoadsWord (mappedState true false) 0#32 true 0#32 0 ∧
    LoadsWord (mappedState false false) 0x20000#32 false (Config.freeWord 0) 1 :=
  ⟨exists_reg (by decide +kernel), holds_of (by decide +kernel), holds_of (by decide +kernel), rfl, by decide +kernel,
    by decide +kernel, by decide +kernel,
    .inl ⟨.inr (.inl rfl), busWord_ram (by decide +kernel) (by decide +kernel)⟩,
    .inr (.inl ⟨by unfold Uncached; decide +kernel, by decide +kernel, rfl⟩),
    .inr (.inr ⟨by unfold Uncached; decide +kernel, .inl (by decide +kernel), busWord_ram (by decide +kernel) (by decide +kernel)⟩),
    .inl ⟨.inr (.inr rfl), busWord_ram (by decide +kernel) (by decide +kernel)⟩,
    .inl ⟨.inr (.inl rfl), busWord_device (by decide +kernel)⟩⟩

/-- RAM, ROM and a peripheral, with a data cache and (in `plain`) without. -/
theorem witness_WordStoreResult : (mappedState true false).iobyp = false ∧ Holds (mappedState true false) 31#5 0#32 ∧
    Holds (mappedState true false) (pointerReg 3#2) 0#32 ∧ Holds (mappedState true false) 14#5 0#32 ∧
    (mappedState true false).regionOf (align32 (0#32 + stackOffset 0#8)).toNat 4 = .ok .ram ∧
    (mappedState true false).regionOf (align32 (0x10FFF#32 + prefixOffset 0#11)).toNat 4 = .ok .rom ∧
    (mappedState true false).regionOf (align32 (0x20FFF#32 + pointerOffset 0#11 0#5)).toNat 4 = .ok .device ∧
    plain.cfg.hasDCache = false ∧ plain.regionOf (align32 (0xFFFFFFFF#32 + prefixOffset 0#11)).toNat 4 = .ok .ram ∧
    Unmapped (mappedState true false) (align32 (0x11000#32 + prefixOffset 0#11)) 4 :=
  ⟨rfl, holds_of (by decide +kernel), holds_of (by decide +kernel), holds_of (by decide +kernel), by decide +kernel,
    by decide +kernel, by decide +kernel, rfl, by decide +kernel, unmapped_of (by decide +kernel)⟩

/-- The three kinds of region; a line that holds the word. -/
theorem witness_ByteStoreResult : (mappedState true false).iobyp = false ∧ Holds (mappedState true false) 0#5 0#32 ∧
    Holds (mappedState true false) 31#5 0#32 ∧ Holds (mappedState true false) 14#5 0#32 ∧
    (mappedState true false).regionOf (byteAddress (stackByteWord 0#32 1023#10) (stackByteLane 1023#10)).toNat 1 = .ok .ram ∧
    (mappedState true false).regionOf (byteAddress (align32 (0x10FFF#32 + prefixOffset 0#11)) (byteLane 0x10FFF#32)).toNat 1 =
      .ok .rom ∧
    (mappedState true false).regionOf (byteAddress (align32 (0x20000#32 + prefixOffset 0#11)) 3#2).toNat 1 = .ok .device ∧
    ((mappedState true false).setDline 0#32 (.valid 0 7#32)).dline 0#32 = .valid (dtag mapped 0#32) 7#32 ∧
    Unmapped (mappedState true false) (byteAddress (align32 (0x11000#32 + prefixOffset 0#11)) 0#2) 1 :=
  ⟨rfl, holds_of (by decide +kernel), holds_of (by decide +kernel), holds_of (by decide +kernel), by decide +kernel,
    by decide +kernel, by decide +kernel, by decide +kernel, unmapped_of (by decide +kernel)⟩

/-- The three kinds of region; a line that holds the word. -/
theorem witness_HalfStoreResult : (mappedState true false).iobyp = false ∧ Holds (mappedState true false) 0#5 0#32 ∧
    Holds (mappedState true false) 31#5 0#32 ∧ Holds (mappedState true false) 14#5 0#32 ∧
    (mappedState true false).regionOf (halfAddress (stackHalfWord 0#32 511#9) (stackHalfLane 511#9)).toNat 2 = .ok .ram ∧
    (mappedState true false).regionOf (halfAddress (align32 (0x10FFF#32 + prefixOffset 0#11)) (halfLane 0x10FFF#32)).toNat 2 =
      .ok .rom ∧
    (mappedState true false).regionOf (halfAddress (align32 (0x20000#32 + prefixOffset 0#11)) 1#1).toNat 2 = .ok .device ∧
    ((mappedState true false).setDline 0#32 (.valid 0 7#32)).dline 0#32 = .valid (dtag mapped 0#32) 7#32 ∧
    Unmapped (mappedState true false) (halfAddress (align32 (0x1FFFF#32 + prefixOffset 0#11)) 1#1) 2 :=
  ⟨rfl, holds_of (by decide +kernel), holds_of (by decide +kernel), holds_of (by decide +kernel), by decide +kernel,
    by decide +kernel, by decide +kernel, by decide +kernel, unmapped_of (by decide +kernel)⟩

theorem witness_PrefixResult : plain.delay = none ∧ plain.pfx = false ∧ plain.iobyp = false := ⟨rfl, rfl, rfl⟩

/-- The test of SKP0 fails at bit 31 of 0x80000000, of SKP1 and SKPRNZ on 0, of SKPRZ on 0x80000000. -/
theorem witness_SkipNotTaken :
    Holds (start 0x07E30#32 [(1#5, 0x80000000#32)]) 1#5 0x80000000#32 ∧ (start 0x07E30#32 [(1#5, 0x80000000#32)]).iobyp = false ∧
    (start 0x07E30#32 [(1#5, 0x80000000#32)]).delay = none ∧
    (0x80000000#32 : Word).toNat / 2 ^ (31#5 : BitVec 5).toNat % 2 = 1 ∧ Holds plain 1#5 0#32 ∧
    (0#32 : Word).toNat / 2 ^ (31#5 : BitVec 5).toNat % 2 = 0 ∧ (0x80000000#32 : Word) ≠ 0#32 ∧
    skipConditions plain.status 0 = false ∧ skipConditions { plain.status with c := true } 13 = false :=
  ⟨holds_of (by decide +kernel), rfl, rfl, by decide +kernel, holds_of (by decide +kernel), by decide, by decide,
    by decide +kernel, by decide +kernel⟩

/-- Over a plain instruction, and over a prefix. -/
theorem witness_SkipTaken : plain.iobyp = false ∧ plain.delay = none ∧ Holds plain 1#5 0#32 ∧
    plain.fetch (plain.pc + 2#32) = .ok (0#16, plain) ∧
    (startMem 0x07E30#32 [] [(0x1000, 0x98010000#32)]).fetch 0x1002#32 =
      .ok (0x9801#16, startMem 0x07E30#32 [] [(0x1000, 0x98010000#32)]) ∧ (0x9801#16 : Half).toNat / 2 ^ 12 = 9 :=
  ⟨rfl, rfl, holds_of (by decide +kernel), by decide +kernel, by decide +kernel, by decide +kernel⟩

theorem witness_RelativeBranchResult : plain.iobyp = false ∧ plain.delay = none ∧ RegExists plain 15#5 :=
  ⟨rfl, rfl, exists_reg (by decide +kernel)⟩

theorem witness_JumpResult : plain.iobyp = false ∧ plain.delay = none ∧ Holds plain 15#5 0#32 ∧ RegExists plain 15#5 :=
  ⟨rfl, rfl, holds_of (by decide +kernel), exists_reg (by decide +kernel)⟩

/-- Not at LO_LIMIT, at LO_LIMIT with IPRI = 1 (masked), and with IPRI = 2 (taken). -/
theorem witness_SaveResult : plain.iobyp = false ∧ plain.regs[phys (plain.status.cwp - 1#5) 30#5]? = some 0#32 ∧
    plain.status.cwp ≠ plain.wvalid.loLimit ∧
    (start 0x08210#32 []).status.cwp = (start 0x08210#32 []).wvalid.loLimit ∧
    ¬ 1 < (start 0x08210#32 []).status.ipri.toNat ∧ (start 0x08210#32 []).status.ie = true ∧
    (start 0x08410#32 []).status.cwp = (start 0x08410#32 []).wvalid.loLimit ∧ (start 0x08410#32 []).status.ie = true ∧
    1 < (start 0x08410#32 []).status.ipri.toNat ∧
    (start 0x08410#32 []).regs[phys ((start 0x08410#32 []).status.cwp - 1#5) 30#5]? = some 0#32 ∧
    BusWord (start 0x08410#32 []) ((start 0x08410#32 []).cfg.vecBase + 4#32) 0#32 0 ∧
    (noVectors 0x08410#32).status.cwp = (noVectors 0x08410#32).wvalid.loLimit ∧
    Unmapped (noVectors 0x08410#32) ((noVectors 0x08410#32).cfg.vecBase + 4#32) 4 :=
  ⟨rfl, by decide +kernel, by decide +kernel, by decide +kernel, by decide +kernel, by decide +kernel, by decide +kernel,
    by decide +kernel, by decide +kernel, by decide +kernel, busWord_ram (by decide +kernel) (by decide +kernel), by decide +kernel, unmapped_of (by decide +kernel)⟩

/-- Not at HI_LIMIT, at HI_LIMIT with IPRI = 2 (masked), and with IPRI = 3 (taken). -/
theorem witness_RestoreResult : plain.iobyp = false ∧ plain.status.cwp ≠ plain.wvalid.hiLimit ∧
    (start 0x084E0#32 []).status.cwp = (start 0x084E0#32 []).wvalid.hiLimit ∧
    ¬ 2 < (start 0x084E0#32 []).status.ipri.toNat ∧
    (start 0x086E0#32 []).status.cwp = (start 0x086E0#32 []).wvalid.hiLimit ∧ (start 0x086E0#32 []).status.ie = true ∧
    2 < (start 0x086E0#32 []).status.ipri.toNat ∧ RegExists (start 0x086E0#32 []) 15#5 ∧
    BusWord (start 0x086E0#32 []) ((start 0x086E0#32 []).cfg.vecBase + 8#32) 0#32 0 ∧
    (noVectors 0x086E0#32).status.cwp = (noVectors 0x086E0#32).wvalid.hiLimit ∧
    Unmapped (noVectors 0x086E0#32) ((noVectors 0x086E0#32).cfg.vecBase + 8#32) 4 :=
  ⟨rfl, by decide +kernel, by decide +kernel, by decide +kernel, by decide +kernel, by decide +kernel, by decide +kernel,
    exists_reg (by decide +kernel), busWord_ram (by decide +kernel) (by decide +kernel), by decide +kernel, unmapped_of (by decide +kernel)⟩

/-- Numbers 1 and 63. -/
theorem witness_TrapResult : plain.iobyp = false ∧ plain.delay = none ∧ (1#6 : BitVec 6) ≠ 0#6 ∧ (63#6 : BitVec 6) ≠ 0#6 ∧
    phys (plain.status.cwp - 1#5) 15#5 < plain.regs.length ∧
    BusWord plain (plain.cfg.vecBase + (1#6 : BitVec 6).setWidth 32 * 4#32) 0#32 0 ∧
    BusWord plain (plain.cfg.vecBase + (63#6 : BitVec 6).setWidth 32 * 4#32) 0#32 0 ∧
    Unmapped (noVectors 0x07E30#32) ((noVectors 0x07E30#32).cfg.vecBase + (63#6 : BitVec 6).setWidth 32 * 4#32) 4 :=
  ⟨rfl, rfl, by decide, by decide, by decide +kernel, busWord_ram (by decide +kernel) (by decide +kernel),
    busWord_ram (by decide +kernel) (by decide +kernel), unmapped_of (by decide +kernel)⟩

theorem witness_TretResult : plain.iobyp = false ∧ plain.delay = none ∧ Holds plain 15#5 0#32 :=
  ⟨rfl, rfl, holds_of (by decide +kernel)⟩

theorem witness_TrapReturn : plain.pc.getLsbD 0 = false ∧ plain.status.dc = false ∧ plain.status.ic = false ∧
    ∃ t, exec (.trap 5#6) plain = .next t ∧ ∃ u, exec (.tret 15#5) t = .next u :=
  ⟨by decide +kernel, by decide +kernel, by decide +kernel, exists_twice (by decide +kernel)⟩

theorem witness_RdctlResult : (∀ k ∈ [0#11, 1#11, 2#11, 5#11, 6#11, 7#11, 8#11, 9#11],
    (prefixed k plain).iobyp = false ∧ (prefixed k plain).k = k) ∧ RegExists (prefixed 9#11 plain) 31#5 :=
  ⟨fun _ _ => ⟨rfl, rfl⟩, exists_reg (by decide +kernel)⟩

/-- Each index; WVALID writable and not; each cache absent, enabled and disabled. -/
theorem witness_WrctlResult : (∀ k ∈ [0#11, 1#11, 2#11, 5#11, 7#11, 8#11, 9#11],
      (prefixed k plain).iobyp = false ∧ (prefixed k plain).k = k) ∧
    Holds (prefixed 9#11 plain) 31#5 0#32 ∧ Holds (mappedState true true) 31#5 0#32 ∧ plain.cfg.wvalidWritable = true ∧
    (State.resetOf { Config.standard with wvalidWritable := false }).cfg.wvalidWritable = false ∧
    plain.cfg.hasDCache = false ∧ plain.cfg.hasICache = false ∧ (mappedState true true).cfg.hasDCache = true ∧
    (mappedState true true).cfg.hasICache = true ∧ (mappedState true true).status.dc = true ∧
    (mappedState true true).status.ic = true ∧ (mappedState false false).status.dc = false ∧
    (mappedState false false).status.ic = false :=
  ⟨fun _ _ => ⟨rfl, rfl⟩, holds_of (by decide +kernel), holds_of (by decide +kernel), rfl, rfl, rfl, rfl, rfl, rfl, rfl, rfl,
    rfl, rfl⟩


end Sys2Proof.Tests
end

/-! A register beyond the register file (10_state.md rule R34 (c), decision D15): every access of one ends in
`registerFileRange`, the shared operations pass that fault on, and no instruction hides it. -/

namespace Sys2Proof.Machine

/-! ## Accesses of a register beyond the file -/

/-- The register `x[r]` lies beyond the register file. -/
def Missing (s : State) (r : RegNum) : Prop := s.regs.length ≤ phys s.status.cwp r

theorem missing_iff {s : State} {r : RegNum} : Missing s r ↔ ¬ RegExists s r := Nat.not_lt.symm

theorem missing_one {q n p : Nat} (hq : q ∈ [p]) (hn : n ≤ q) : n ≤ p := List.mem_singleton.mp hq ▸ hn

theorem missing_two {q n p r : Nat} (hq : q ∈ [p, r]) (hn : n ≤ q) : n ≤ p ∨ n ≤ r := by
  rcases List.mem_pair.mp hq with rfl | rfl
  · exact .inl hn
  · exact .inr hn

/-- The one fault of a register read is the range fault. -/
theorem readReg_cases (s : State) (r : RegNum) :
    s.readReg r = .error .registerFileRange ∨ ∃ v, s.readReg r = .ok v := by
  unfold State.readReg
  split
  · exact .inr ⟨_, rfl⟩
  · exact .inl rfl

/-- A read followed by `f` ends in the range fault where the register is missing or `f` ends in it. -/
theorem readReg_bind_range {α : Type} {s : State} {r : RegNum} {f : Word → Except Fault α}
    (h : Missing s r ∨ ∀ v, f v = .error .registerFileRange) : (s.readReg r >>= f) = .error .registerFileRange := by
  rcases h with h | h
  · simp [readReg_error h]
  · rcases readReg_cases s r with hr | ⟨v, hr⟩ <;> simp [hr, h]

theorem writeReg_bind_range {α : Type} {s : State} {r : RegNum} {v : Word} {f : State → Except Fault α}
    (h : Missing s r) : (s.writeReg r v >>= f) = .error .registerFileRange := by
  simp [writeReg_error v h]

/-- Two reads, one of a missing register, whatever is done with the values. -/
theorem readReg_pair_range {α : Type} {s : State} {r q : RegNum} {f : Word → Word → Except Fault α}
    (h : Missing s r ∨ Missing s q) :
    (do let x ← s.readReg r; let y ← s.readReg q; f x y) = .error .registerFileRange :=
  readReg_bind_range (h.imp_right fun hq _ => readReg_bind_range (.inl hq))

/-! ## The register operations -/

theorem update_missing {s : State} {a : RegNum} (f : Word → Word) (h : Missing s a) :
    s.update a f = .error .registerFileRange := readReg_bind_range (.inl h)

theorem combine_missing {s : State} {a b : RegNum} (f : Word → Word → Word) (h : Missing s a ∨ Missing s b) :
    s.combine a b f = .error .registerFileRange := readReg_pair_range h

theorem addTo_missing {s : State} {a : RegNum} (y : Word) (h : Missing s a) :
    s.addTo a y = .error .registerFileRange := readReg_bind_range (.inl h)

theorem subFrom_missing {s : State} {a : RegNum} (y : Word) (h : Missing s a) :
    s.subFrom a y = .error .registerFileRange := readReg_bind_range (.inl h)

theorem compareWith_missing {s : State} {a : RegNum} (y : Word) (h : Missing s a) :
    s.compareWith a y = .error .registerFileRange := readReg_bind_range (.inl h)

/-- AND, ANDN, OR, XOR need `x[B]` only where no prefix replaces it (R134). -/
theorem logicInto_missing {s : State} {a b : RegNum} (f : Word → Word → Word) {q : Nat}
    (hq : q ∈ if s.pfx then [phys s.status.cwp a] else [phys s.status.cwp a, phys s.status.cwp b])
    (hn : s.regs.length ≤ q) : s.logicInto a b f = .error .registerFileRange := by
  unfold State.logicInto
  cases hp : s.pfx with
  | true =>
    have ha : Missing s a := missing_one (by simpa [hp] using hq) hn
    simp only [logicOperand_prefixed b hp, ok_bind, readReg_bind_range (.inl ha)]
  | false =>
    have hab : Missing s a ∨ Missing s b := missing_two (by simpa [hp] using hq) hn
    rw [logicOperand_register b hp]
    exact readReg_pair_range hab.symm

/-- SAVE reads %fp and writes %sp of the new window. -/
theorem save_missing {s : State} {w : BitVec 5} {v : Word → Word} {f : State → Except Fault State}
    (h : s.regs.length ≤ phys w 30#5 ∨ s.regs.length ≤ phys w 14#5) :
    (do
      let fp ← (s.setStatus (s.status.withCwp w)).readReg 30#5
      let u ← (s.setStatus (s.status.withCwp w)).writeReg 14#5 (v fp)
      f u) = .error .registerFileRange :=
  readReg_bind_range (h.imp_right fun hsp _ => writeReg_bind_range hsp)

/-! ## Loads -/

theorem uncached_iff {s : State} {b : Bool} :
    (!s.cfg.hasDCache || !s.status.dc || b) = true ↔ Uncached s b := by
  simp [Uncached, or_assoc]

theorem dataLoad_uncached {s : State} {b : Bool} (w : Word) (h : Uncached s b) : s.dataLoad w b = s.busReadWord w := by
  simp only [State.dataLoad, uncached_iff.mpr h, if_true]

theorem dataLoad_hit {s : State} {w v : Word} {b : Bool} (h : ¬ Uncached s b)
    (hl : s.dline w = .valid (dtag s.cfg w) v) : s.dataLoad w b = .ok (v, s) := by
  simp [State.dataLoad, mt uncached_iff.mp h, hl]

theorem dataLoad_miss {s : State} {w : Word} {b : Bool} (h : ¬ Uncached s b)
    (hl : s.dline w = .invalid ∨ ∃ tag d, s.dline w = .valid tag d ∧ tag ≠ dtag s.cfg w) :
    s.dataLoad w b = s.dataFill w := by
  rcases hl with hl | ⟨tag, d, hl, ht⟩
  · simp [State.dataLoad, mt uncached_iff.mp h, hl]
  · simp [State.dataLoad, mt uncached_iff.mp h, hl, ht]

theorem dataFill_of {s : State} {w v : Word} {f : Nat} (h : BusWord s w v f) :
    s.dataFill w = .ok (v, State.setDline { s with freeCtr := f } w (.valid (dtag s.cfg w) v)) := by
  simp only [State.dataFill, busReadWord_of h, ok_bind]

/-- Where Safety says that a load gives `v`, it does, changing at most the data cache and the count of
free values. -/
theorem dataLoad_of_loadsWord {s : State} {w v : Word} {b : Bool} {f : Nat} (h : LoadsWord s w b v f) :
    ∃ d, s.dataLoad w b = .ok (v, { s with dcache := d, freeCtr := f }) := by
  rcases h with ⟨hu, hb⟩ | ⟨hu, hl, rfl⟩ | ⟨hu, hl, hb⟩
  · exact ⟨s.dcache, by rw [dataLoad_uncached w hu, busReadWord_of hb]⟩
  · exact ⟨s.dcache, dataLoad_hit hu hl⟩
  · exact ⟨_, by rw [dataLoad_miss hu hl, dataFill_of hb]; rfl⟩

/-- A load into a missing register may fault in the read before, but never completes. -/
theorem loadInto_missing_ne_ok {s : State} {a : RegNum} (w : Word) (b : Bool) (h : Missing s a) (t : State) :
    s.loadInto a w b ≠ .ok t := by
  intro ht
  obtain ⟨v, u, hu, hlt, -⟩ := loadInto_ok ht
  obtain ⟨d, f, rfl⟩ := dataLoad_frame hu
  exact missing_iff.mp h hlt

/-- A load that can read its word and has no register to put it in. -/
theorem loadInto_missing {s : State} {a : RegNum} {w v : Word} {b : Bool} {f : Nat} (h : Missing s a)
    (hl : LoadsWord s w b v f) : s.loadInto a w b = .error .registerFileRange := by
  obtain ⟨d, hd⟩ := dataLoad_of_loadsWord hl
  simp only [State.loadInto, hd, ok_bind]
  exact writeReg_error (s := { s with dcache := d, freeCtr := f }) v h

/-- A load with its base or its destination missing never completes. -/
theorem load_missing_ne_ok {s : State} {a r : RegNum} {w : Word → Word} {b : Bool} (h : Missing s a ∨ Missing s r)
    (t : State) : (do let base ← s.readReg r; s.loadInto a (w base) b) ≠ .ok t := by
  rcases h with ha | hr
  · intro ht
    obtain ⟨base, -, ht⟩ := bind_ok.mp ht
    exact loadInto_missing_ne_ok _ _ ha t ht
  · simp [readReg_bind_range (.inl hr)]

/-! ## Control registers -/

/-- The control registers that RDCTL may name (R294). -/
theorem readCtl_defined {s : State} (h3 : s.k.toNat ≠ 3) (h4 : s.k.toNat ≠ 4) (h10 : s.k.toNat < 10) :
    ∃ v t, s.readCtl = .ok (v, t) := by
  unfold State.readCtl
  split
  case h_9 =>
    simp only [imp_false] at *
    omega
  all_goals exact ⟨_, _, rfl⟩

/-- A control register that can be read, and no register to put it in. -/
theorem readCtl_write_missing {s t : State} {a : RegNum} {v : Word} (h : Missing s a) (hc : s.readCtl = .ok (v, t)) :
    t.writeReg a v = .error .registerFileRange := by
  rcases readCtl_ok hc with rfl | rfl
  · exact writeReg_error v h
  · exact writeReg_error (s := s.drawFree) v h

/-! ## Instructions with a missing register -/

/-- `i` never completes in `s`, and the range fault is its answer where no rule stops it before (R251, R276) and it is
none of those that look at something else before the register: the loads, RDCTL and TRAP 0. -/
structure RangeStop (i : Instr) (s : State) : Prop where
  never : ∀ t, exec i s ≠ .next t
  named : s.iobyp = false → (s.delay = none ∨ slotForbidden i = false) → isLoad i = false →
    (∀ a, i ≠ .rdctl a) → i ≠ .trap 0#6 → exec i s = .fault .registerFileRange

theorem rangeStop_notAfterPfxio {i : Instr} {s : State} {r : Result} (hi : exec i s = s.notAfterPfxio r)
    (hr : r = .fault .registerFileRange) : RangeStop i s where
  never t ht := by
    have := (notAfterPfxio_next (hi ▸ ht)).2
    simp [hr] at this
  named hp _ _ _ _ := by rw [hi, notAfterPfxio_of r hp, hr]

theorem rangeStop_plain {i : Instr} {s : State} {body : Except Fault State} (hi : exec i s = s.plain body)
    (hb : body = .error .registerFileRange) : RangeStop i s :=
  rangeStop_notAfterPfxio hi (by rw [hb, goOn_error])

theorem rangeStop_transfer {i : Instr} {s : State} {body : Except Fault State} (hi : exec i s = s.transfer body)
    (hs : slotForbidden i = true) (hb : body = .error .registerFileRange) : RangeStop i s where
  never t ht := by
    obtain ⟨-, -, ht⟩ := transfer_next (hi ▸ ht)
    simp [hb] at ht
  named hp hd _ _ _ := by
    have hd : s.delay = none := by simpa [hs] using hd
    rw [hi, State.transfer, notInSlot_of _ hd, notAfterPfxio_of _ hp, hb, finish_error]

theorem rangeStop_load {i : Instr} {s : State} (hi : isLoad i = true) (hn : ∀ t, exec i s ≠ .next t) :
    RangeStop i s where
  never := hn
  named _ _ hl := by simp [hi] at hl

theorem rangeStop_rdctl {s : State} {a : RegNum} (h : Missing s a) : RangeStop (.rdctl a) s where
  never t ht := by
    obtain ⟨-, u, hu, -⟩ := plain_next ht
    obtain ⟨⟨v, w⟩, hc, hw⟩ := bind_ok.mp hu
    simp [readCtl_write_missing h hc] at hw
  named _ _ _ hr _ := absurd rfl (hr a)

theorem rangeStop_trap {s : State} {n : BitVec 6} (h : s.regs.length ≤ phys (s.status.cwp - 1#5) 15#5) :
    RangeStop (.trap n) s := by
  by_cases hn : n = 0#6
  · subst hn
    exact {
      never := fun t ht => by
        obtain ⟨-, -, ht⟩ := transfer_next (body := .error .trapZero) ht
        cases ht
      named := fun _ _ _ _ h0 => absurd rfl h0 }
  · exact rangeStop_transfer rfl rfl (by rw [if_neg hn, enter_missing h])

/-- The case split over the 70 forms: each needed register is accessed on every path, and only a load, RDCTL and TRAP 0
can stop before they reach it. -/
theorem rangeStop_of_needed {i : Instr} {s : State} {q : Nat} (hq : q ∈ registersNeeded i s.pfx s.status.cwp)
    (hn : s.regs.length ≤ q) : RangeStop i s := by
  cases i with
  | add a b =>
    exact rangeStop_plain rfl
      (readReg_bind_range ((missing_two hq hn).symm.imp_right fun ha y => addTo_missing y ha))
  | sub a b =>
    exact rangeStop_plain rfl
      (readReg_bind_range ((missing_two hq hn).symm.imp_right fun ha y => subFrom_missing y ha))
  | cmp a b =>
    exact rangeStop_plain rfl
      (readReg_bind_range ((missing_two hq hn).symm.imp_right fun ha y => compareWith_missing y ha))
  | addi a imm => exact rangeStop_plain rfl (addTo_missing _ (missing_one hq hn))
  | subi a imm => exact rangeStop_plain rfl (subFrom_missing _ (missing_one hq hn))
  | cmpi a imm => exact rangeStop_plain rfl (compareWith_missing _ (missing_one hq hn))
  | and a b | andn a b | or a b | xor a b => exact rangeStop_plain rfl (logicInto_missing _ hq hn)
  | lsl a b | lsr a b | asr a b | ext8d a b | ext16d a b | usr0 a b =>
    exact rangeStop_plain rfl (combine_missing _ (missing_two hq hn))
  | usr1 a | usr2 a | usr3 a | usr4 a => exact rangeStop_plain rfl (combine_missing _ (missing_two hq hn))
  | mul a | mstep a => exact rangeStop_plain rfl (combine_missing _ (missing_two hq hn).symm)
  | lsli a imm | lsri a imm | asri a imm | movhi a imm | ext8s a imm | ext16s a imm =>
    exact rangeStop_plain rfl (update_missing _ (missing_one hq hn))
  | not a | neg a | abs a | sext8 a | sext16 a | swap a =>
    exact rangeStop_plain rfl (update_missing _ (missing_one hq hn))
  | rlc a | rrc a | wrctl a => exact rangeStop_plain rfl (readReg_bind_range (.inl (missing_one hq hn)))
  | mov a b =>
    exact rangeStop_plain rfl (readReg_bind_range ((missing_two hq hn).symm.imp_right fun ha y => writeReg_error y ha))
  | movi a imm | bgen a imm => exact rangeStop_plain rfl (writeReg_error _ (missing_one hq hn))
  | fill8 a | fill16 a =>
    exact rangeStop_plain rfl (readReg_bind_range ((missing_two hq hn).imp_right fun h0 _ => writeReg_error _ h0))
  | skp0 a imm | skp1 a imm => exact rangeStop_transfer rfl rfl (readReg_bind_range (.inl (missing_one hq hn)))
  | skprz a | skprnz a | jmp a | tret a =>
    exact rangeStop_transfer rfl rfl (readReg_bind_range (.inl (missing_one hq hn)))
  | call a =>
    exact rangeStop_transfer rfl rfl
      (readReg_bind_range ((missing_two hq hn).imp_right fun ho7 _ => writeReg_bind_range ho7))
  | bsr imm => exact rangeStop_transfer rfl rfl (writeReg_bind_range (missing_one hq hn))
  | st a b | stp a p imm | sts a imm => exact rangeStop_plain rfl (readReg_pair_range (missing_two hq hn).symm)
  | st8d a | st16d a | st8s a imm | st16s a imm | sts8s imm | sts16s imm =>
    exact rangeStop_plain rfl (readReg_pair_range (missing_two hq hn))
  | ld a b | ldp a p imm =>
    refine rangeStop_load rfl fun t ht => ?_
    obtain ⟨u, hu, -⟩ := goOn_next ht
    exact load_missing_ne_ok (missing_two hq hn) u hu
  | lds a imm =>
    refine rangeStop_load rfl fun t ht => ?_
    obtain ⟨-, u, hu, -⟩ := plain_next ht
    exact load_missing_ne_ok (missing_two hq hn) u hu
  | save imm => exact rangeStop_notAfterPfxio rfl (by rw [save_missing (missing_two hq hn), finish_error])
  | trap n => exact rangeStop_trap (missing_one hq hn)
  | rdctl a => exact rangeStop_rdctl (missing_one hq hn)
  | restore | skps cc | br imm | pfx imm | pfxio imm => exact absurd hq List.not_mem_nil

/-! ## The instructions that look at something else before their register -/

theorem goOn_range {i : Instr} {s : State} {body : Except Fault State} (hi : exec i s = goOn body)
    (hb : body = .error .registerFileRange) : exec i s = .fault .registerFileRange := by
  rw [hi, hb, goOn_error]

theorem plain_range {i : Instr} {s : State} {body : Except Fault State} (hi : exec i s = s.plain body)
    (hp : s.iobyp = false) (hb : body = .error .registerFileRange) : exec i s = .fault .registerFileRange := by
  rw [hi, State.plain, notAfterPfxio_of _ hp, hb, goOn_error]

theorem ld_base_missing {s : State} {b : RegNum} (a : RegNum) (h : Missing s b) :
    exec (.ld a b) s = .fault .registerFileRange :=
  goOn_range rfl (readReg_bind_range (.inl h))

theorem ldp_base_missing {s : State} {p : BitVec 2} (a : RegNum) (imm : BitVec 5) (h : Missing s (pointerReg p)) :
    exec (.ldp a p imm) s = .fault .registerFileRange :=
  goOn_range rfl (readReg_bind_range (.inl h))

theorem lds_base_missing {s : State} (a : RegNum) (imm : BitVec 8) (hp : s.iobyp = false) (h : Missing s 14#5) :
    exec (.lds a imm) s = .fault .registerFileRange :=
  plain_range rfl hp (readReg_bind_range (.inl h))

/-- What LD, LDP and LDS do with a base that exists, a word that can be read and no destination. -/
theorem load_destination_missing {s : State} {a r : RegNum} {base v : Word} {w : Word → Word} {b : Bool} {f : Nat}
    (ha : Missing s a) (hb : Holds s r base) (hl : LoadsWord s (w base) b v f) :
    (do let x ← s.readReg r; s.loadInto a (w x) b) = .error .registerFileRange := by
  rw [readReg_of_holds hb, ok_bind, loadInto_missing ha hl]

theorem ld_destination_missing {s : State} {a b : RegNum} {base v : Word} {f : Nat} (ha : Missing s a)
    (hb : Holds s b base) (hl : LoadsWord s (align32 (base + prefixOffset s.k)) s.iobyp v f) :
    exec (.ld a b) s = .fault .registerFileRange :=
  goOn_range rfl (load_destination_missing ha hb hl)

theorem ldp_destination_missing {s : State} {a : RegNum} {p : BitVec 2} {imm : BitVec 5} {base v : Word} {f : Nat}
    (ha : Missing s a) (hb : Holds s (pointerReg p) base)
    (hl : LoadsWord s (align32 (base + pointerOffset s.k imm)) s.iobyp v f) :
    exec (.ldp a p imm) s = .fault .registerFileRange :=
  goOn_range rfl (load_destination_missing ha hb hl)

theorem lds_destination_missing {s : State} {a : RegNum} {imm : BitVec 8} {base v : Word} {f : Nat}
    (hp : s.iobyp = false) (ha : Missing s a) (hb : Holds s 14#5 base)
    (hl : LoadsWord s (align32 (base + stackOffset imm)) false v f) :
    exec (.lds a imm) s = .fault .registerFileRange :=
  plain_range rfl hp (load_destination_missing ha hb hl)

theorem rdctl_destination_missing {s : State} {a : RegNum} (hp : s.iobyp = false) (ha : Missing s a)
    (h3 : s.k.toNat ≠ 3) (h4 : s.k.toNat ≠ 4) (h10 : s.k.toNat < 10) :
    exec (.rdctl a) s = .fault .registerFileRange := by
  obtain ⟨v, t, hc⟩ := readCtl_defined h3 h4 h10
  exact plain_range rfl hp (by rw [hc]; exact readCtl_write_missing ha hc)

/-- A taken RESTORE enters exception 2 one window below the one it went up to, which is the window it left: so %o7 of
the window left is the register missing. -/
theorem restore_missing {s : State} (hp : s.iobyp = false) (hw : s.status.cwp = s.wvalid.hiLimit)
    (hie : s.status.ie = true) (hpri : 2 < s.status.ipri.toNat) (h : Missing s 15#5) :
    exec .restore s = .fault .registerFileRange := by
  have htaken : (s.status.cwp == s.wvalid.hiLimit && s.unmasked 2#6) = true := by
    simp [hw, State.unmasked, hie, hpri]
  change s.notAfterPfxio (finish (if (s.status.cwp == s.wvalid.hiLimit && s.unmasked 2#6) = true then _ else _)) = _
  rw [notAfterPfxio_of _ hp, if_pos htaken, enter_missing (by simpa [Missing] using h), finish_error]

/-! ## The obligation -/

/-- Settles O21: `rangeStop_of_needed` for every instruction, and the loads, RDCTL and RESTORE one by one. -/
theorem missingRegisterStops : Obligations.MissingRegisterStops := by
  refine ⟨fun i s q hq hn => ?_, fun s a b p imm imm8 => ?_, fun s a b p imm imm8 base v f ha => ?_, ?_⟩
  · have hstop := rangeStop_of_needed hq hn
    exact ⟨hstop.never, hstop.named⟩
  · exact ⟨ld_base_missing a, ldp_base_missing a imm, lds_base_missing a imm8⟩
  · exact ⟨ld_destination_missing ha, ldp_destination_missing ha, fun hp => lds_destination_missing hp ha,
      fun hp => rdctl_destination_missing hp ha⟩
  · exact fun s => restore_missing

end Sys2Proof.Machine

/-! The arithmetic and logic instructions (40_arithmetic_logic.md): the words of their bit rows, the state each leaves,
and what its flags say of the operands as unsigned and as signed numbers. -/

namespace Sys2Proof

/-! ## Words with bit 15 = 0 -/

/-- A field that ends at bit 15, where that is 0, is no opcode that begins with 1. -/
theorem leading_field_ne {w : Half} {s n : Nat} {c : BitVec (n + 1)} (hw : w.getLsbD 15 = false) (hs : s + n = 15)
    (hc : c.getLsbD n = true) : w.extractLsb' s (n + 1) ≠ c := by
  rintro rfl
  rw [BitVec.getLsbD_extractLsb', hs, hw, Bool.and_false] at hc
  cases hc

/-- The opcodes of the longer formats all begin with 1 (R125), so a word whose op6 begins with 0 is read by op6. -/
theorem decode_of_op6 {w : Half} {op : BitVec 6} (hw : w.extractLsb' 10 6 = op) (hop : op.getLsbD 5 = false) :
    decode w = decodeOp6 w := by
  have hbit : w.getLsbD 15 = false := by
    rw [← hw, BitVec.getLsbD_extractLsb'] at hop
    exact hop
  unfold decode
  iterate 8 rw [if_neg (leading_field_ne hbit rfl rfl)]

/-! ## Format RR, which Ri5 shares: IMM5 stands where B does (R122) -/

theorem fieldA_rr (l : BitVec 6) (b a : BitVec 5) : fieldA (l ++ b ++ a) = a := rr_0_5 l b a

theorem fieldB_rr (l : BitVec 6) (b a : BitVec 5) : fieldB (l ++ b ++ a) = b := rr_5_5 l b a

theorem fieldImm5_rr (l : BitVec 6) (b a : BitVec 5) : fieldImm5 (l ++ b ++ a) = b := rr_5_5 l b a

theorem decode_rr {l : BitVec 6} (b a : BitVec 5) (hl : l.getLsbD 5 = false) :
    decode (l ++ b ++ a) = decodeOp6 (l ++ b ++ a) :=
  decode_of_op6 (rr_10_6 l b a) hl

theorem decode_add (a b : RegNum) : decode (0b000000#6 ++ b ++ a) = .ok (.add a b) := by
  rw [decode_rr b a rfl]
  simp only [decodeOp6, rr_10_6, fieldA_rr, fieldB_rr]

theorem decode_addi (a : RegNum) (imm : BitVec 5) : decode (0b000001#6 ++ imm ++ a) = .ok (.addi a imm) := by
  rw [decode_rr imm a rfl]
  simp only [decodeOp6, rr_10_6, fieldA_rr, fieldImm5_rr]

theorem decode_sub (a b : RegNum) : decode (0b000010#6 ++ b ++ a) = .ok (.sub a b) := by
  rw [decode_rr b a rfl]
  simp only [decodeOp6, rr_10_6, fieldA_rr, fieldB_rr]

theorem decode_subi (a : RegNum) (imm : BitVec 5) : decode (0b000011#6 ++ imm ++ a) = .ok (.subi a imm) := by
  rw [decode_rr imm a rfl]
  simp only [decodeOp6, rr_10_6, fieldA_rr, fieldImm5_rr]

theorem decode_cmp (a b : RegNum) : decode (0b000100#6 ++ b ++ a) = .ok (.cmp a b) := by
  rw [decode_rr b a rfl]
  simp only [decodeOp6, rr_10_6, fieldA_rr, fieldB_rr]

theorem decode_cmpi (a : RegNum) (imm : BitVec 5) : decode (0b000101#6 ++ imm ++ a) = .ok (.cmpi a imm) := by
  rw [decode_rr imm a rfl]
  simp only [decodeOp6, rr_10_6, fieldA_rr, fieldImm5_rr]

theorem decode_and (a b : RegNum) : decode (0b001110#6 ++ b ++ a) = .ok (.and a b) := by
  rw [decode_rr b a rfl]
  simp only [decodeOp6, rr_10_6, fieldA_rr, fieldB_rr]

theorem decode_andn (a b : RegNum) : decode (0b001111#6 ++ b ++ a) = .ok (.andn a b) := by
  rw [decode_rr b a rfl]
  simp only [decodeOp6, rr_10_6, fieldA_rr, fieldB_rr]

theorem decode_or (a b : RegNum) : decode (0b010000#6 ++ b ++ a) = .ok (.or a b) := by
  rw [decode_rr b a rfl]
  simp only [decodeOp6, rr_10_6, fieldA_rr, fieldB_rr]

theorem decode_xor (a b : RegNum) : decode (0b010001#6 ++ b ++ a) = .ok (.xor a b) := by
  rw [decode_rr b a rfl]
  simp only [decodeOp6, rr_10_6, fieldA_rr, fieldB_rr]

/-! ## Format Rw -/

theorem fieldA_rw (l : BitVec 11) (a : BitVec 5) : fieldA (l ++ a) = a := rw_0_5 l a

/-- op6 = 011111 with op5w, the low five bits of the row's eleven (R129). -/
theorem decode_rw {l : BitVec 11} (a : BitVec 5) (hl : l.extractLsb' 5 6 = 0b011111#6) :
    decode (l ++ a) = decodeOp5w (l ++ a) := by
  have hop : @BitVec.extractLsb' 16 10 6 (l ++ a) = 0b011111#6 := (rw_10_6 l a).trans hl
  rw [decode_of_op6 hop rfl]
  simp only [decodeOp6, hop]

theorem decode_not (a : RegNum) : decode (0b01111100000#11 ++ a) = .ok (.not a) := by
  rw [decode_rw a rfl]
  simp [decodeOp5w, rw_5_5, fieldA_rw]

theorem decode_neg (a : RegNum) : decode (0b01111100001#11 ++ a) = .ok (.neg a) := by
  rw [decode_rw a rfl]
  simp [decodeOp5w, rw_5_5, fieldA_rw]

theorem decode_abs (a : RegNum) : decode (0b01111100010#11 ++ a) = .ok (.abs a) := by
  rw [decode_rw a rfl]
  simp [decodeOp5w, rw_5_5, fieldA_rw]

end Sys2Proof

namespace Sys2Proof.Machine

/-! ## The flags, bit by bit, and what they say of the operands as signed numbers -/

theorem msb_eq_bit31 (x : Word) : x.msb = x.getLsbD 31 := BitVec.msb_eq_getLsbD_last x

theorem addFlags_bits (st : Status) (x y : Word) : st.addFlags x y = { st with
    n := (x + y).getLsbD 31
    z := decide (x + y = 0#32)
    c := decide (2 ^ 32 ≤ x.toNat + y.toNat)
    v := (x.getLsbD 31 == y.getLsbD 31) && ((x + y).getLsbD 31 != x.getLsbD 31) } := by
  simp only [← msb_eq_bit31]
  rfl

theorem subFlags_bits (st : Status) (x y : Word) : st.subFlags x y = { st with
    n := (x - y).getLsbD 31
    z := decide (x - y = 0#32)
    c := decide (x.toNat < y.toNat)
    v := (x.getLsbD 31 != y.getLsbD 31) && ((x - y).getLsbD 31 != x.getLsbD 31) } := by
  simp only [← msb_eq_bit31]
  rfl

theorem logicFlags_bits (st : Status) (r : Word) :
    st.logicFlags r = { st with n := r.getLsbD 31, z := decide (r = 0#32) } := by
  simp only [← msb_eq_bit31]
  rfl

/-- V of R160 is the signed overflow of the sum. -/
theorem addOverflow_eq_saddOverflow (x y : Word) : addOverflow x y = x.saddOverflow y := by
  rw [BitVec.saddOverflow_eq]
  rfl

/-- V of R161 is the signed overflow of the difference. -/
theorem subOverflow_eq_ssubOverflow (x y : Word) : subOverflow x y = x.ssubOverflow y := by
  rw [BitVec.ssubOverflow_eq, subOverflow]
  cases x.msb <;> cases y.msb <;> simp

theorem addOverflow_iff (x y : Word) : addOverflow x y = true ↔ (x + y).toInt ≠ x.toInt + y.toInt := by
  rw [addOverflow_eq_saddOverflow]
  constructor
  · intro h heq
    have hlt := (x + y).toInt_lt
    have hle := (x + y).le_toInt
    simp only [BitVec.saddOverflow, Bool.or_eq_true, decide_eq_true_eq] at h
    omega
  · exact fun h => not_not.mp (mt BitVec.toInt_add_of_not_saddOverflow h)

theorem subOverflow_iff (x y : Word) : subOverflow x y = true ↔ (x - y).toInt ≠ x.toInt - y.toInt := by
  rw [subOverflow_eq_ssubOverflow]
  constructor
  · intro h heq
    have hlt := (x - y).toInt_lt
    have hle := (x - y).le_toInt
    simp only [BitVec.ssubOverflow, Bool.or_eq_true, decide_eq_true_eq] at h
    omega
  · exact fun h => not_not.mp (mt BitVec.toInt_sub_of_not_ssubOverflow h)

/-- N xor V after a subtraction (R161): without overflow N is the sign of the difference; with overflow the operands
differ in sign, and the negative one is the lower. -/
theorem negative_xor_overflow_iff (x y : Word) :
    ((x - y).msb != subOverflow x y) = true ↔ x.toInt < y.toInt := by
  cases hv : subOverflow x y with
  | false =>
    have hd : (x - y).toInt = x.toInt - y.toInt := not_not.mp (mt (subOverflow_iff x y).mpr (by simp [hv]))
    simp [BitVec.msb_eq_toInt, hd]
  | true =>
    obtain ⟨hxy, hdx⟩ : x.msb ≠ y.msb ∧ (x - y).msb ≠ x.msb := by simpa [subOverflow] using hv
    rw [Bool.eq_not.mpr hdx]
    simp only [BitVec.msb_eq_toInt, ne_eq, decide_eq_decide] at hxy
    simp only [BitVec.msb_eq_toInt, Bool.bne_true, Bool.not_not, decide_eq_true_eq]
    omega

/-! ## The state each shared operation leaves -/

/-- A body that ends in `u` goes on from `u` in sequence. -/
theorem plain_advanced {s u : State} {body : Except Fault State} (hp : s.iobyp = false) (hb : body = .ok u) :
    s.plain body = .next u.advanced := plain_of hp hb

theorem addTo_of_holds {s : State} {a : RegNum} {x : Word} (y : Word) (ha : Holds s a x) :
    s.addTo a y = .ok ((s.withReg a (x + y)).setStatus (s.status.addFlags x y)) :=
  addTo_of_read y (readReg_of_holds ha)

theorem subFrom_of_holds {s : State} {a : RegNum} {x : Word} (y : Word) (ha : Holds s a x) :
    s.subFrom a y = .ok ((s.withReg a (x - y)).setStatus (s.status.subFlags x y)) :=
  subFrom_of_read y (readReg_of_holds ha)

theorem compareWith_of_holds {s : State} {a : RegNum} {x : Word} (y : Word) (ha : Holds s a x) :
    s.compareWith a y = .ok (s.setStatus (s.status.subFlags x y)) :=
  compareWith_of_read y (readReg_of_holds ha)

/-- The second operand of AND, ANDN, OR, XOR, by what the last instruction was (R134). -/
theorem logicOperand_of_holds {s : State} {b : RegNum} {y : Word} (hb : s.pfx = false → Holds s b y)
    (hk : s.pfx = true → y = (s.k ++ b).setWidth 32) : s.logicOperand b = .ok y := by
  cases hp : s.pfx with
  | false => rw [logicOperand_register b hp, readReg_of_holds (hb hp)]
  | true => rw [logicOperand_prefixed b hp, hk hp]; rfl

theorem plain_logicInto {s : State} {a b : RegNum} {x y : Word} (f : Word → Word → Word) (hp : s.iobyp = false)
    (ha : Holds s a x) (hb : s.logicOperand b = .ok y) :
    s.plain (s.logicInto a b f) =
      .next (((s.withReg a (f x y)).setStatus (s.status.logicFlags (f x y))).advanced) :=
  plain_advanced hp (logicInto_of_read f (readReg_of_holds ha) hb)

theorem plain_update {s : State} {a : RegNum} {x : Word} (f : Word → Word) (hp : s.iobyp = false) (ha : Holds s a x) :
    s.plain (s.update a f) = .next (s.withReg a (f x)).advanced :=
  plain_advanced hp (update_of_read f (readReg_of_holds ha))

/-! ## Addition, subtraction and comparison -/

theorem exec_add {s : State} {a b : RegNum} {x y : Word} (hp : s.iobyp = false) (ha : Holds s a x) (hb : Holds s b y) :
    exec (.add a b) s = .next ((s.withReg a (x + y)).setStatus (s.status.addFlags x y)).advanced :=
  plain_advanced hp (by rw [readReg_of_holds hb, ok_bind, addTo_of_holds y ha])

theorem exec_addi {s : State} {a : RegNum} {x : Word} (imm : BitVec 5) (hp : s.iobyp = false) (ha : Holds s a x) :
    exec (.addi a imm) s = .next ((s.withReg a (x + immOperand s.k imm)).setStatus
      (s.status.addFlags x (immOperand s.k imm))).advanced :=
  plain_advanced hp (addTo_of_holds _ ha)

theorem exec_sub {s : State} {a b : RegNum} {x y : Word} (hp : s.iobyp = false) (ha : Holds s a x) (hb : Holds s b y) :
    exec (.sub a b) s = .next ((s.withReg a (x - y)).setStatus (s.status.subFlags x y)).advanced :=
  plain_advanced hp (by rw [readReg_of_holds hb, ok_bind, subFrom_of_holds y ha])

theorem exec_subi {s : State} {a : RegNum} {x : Word} (imm : BitVec 5) (hp : s.iobyp = false) (ha : Holds s a x) :
    exec (.subi a imm) s = .next ((s.withReg a (x - immOperand s.k imm)).setStatus
      (s.status.subFlags x (immOperand s.k imm))).advanced :=
  plain_advanced hp (subFrom_of_holds _ ha)

theorem exec_cmp {s : State} {a b : RegNum} {x y : Word} (hp : s.iobyp = false) (ha : Holds s a x) (hb : Holds s b y) :
    exec (.cmp a b) s = .next (s.setStatus (s.status.subFlags x y)).advanced :=
  plain_advanced hp (by rw [readReg_of_holds hb, ok_bind, compareWith_of_holds y ha])

theorem exec_cmpi {s : State} {a : RegNum} {x : Word} (imm : BitVec 5) (hp : s.iobyp = false) (ha : Holds s a x) :
    exec (.cmpi a imm) s = .next (s.setStatus (s.status.subFlags x (immOperand s.k imm))).advanced :=
  plain_advanced hp (compareWith_of_holds _ ha)

/-- Settles O30: the state by `exec_add` and `exec_addi`, V by `addOverflow_iff`. -/
theorem additionResult : Obligations.AdditionResult := by
  intro s a b imm x y z hp ha sum
  have hsum : ∀ v, sum v = ((s.withReg a (x + v)).setStatus (s.status.addFlags x v)).advanced := fun v => by
    rw [addFlags_bits]
    rfl
  refine ⟨decode_add a b, decode_addi a imm, fun hb => ?_, fun hz => ?_, ?_⟩
  · rw [hsum, exec_add hp ha hb]
  · rw [hsum, hz, exec_addi imm hp ha]
    rfl
  · rw [hsum]
    exact addOverflow_iff x y

/-- Settles O31: the state by `exec_sub` and `exec_subi`, V by `subOverflow_iff`. -/
theorem subtractionResult : Obligations.SubtractionResult := by
  intro s a b imm x y z hp ha difference
  have hdifference : ∀ v, difference v = ((s.withReg a (x - v)).setStatus (s.status.subFlags x v)).advanced :=
    fun v => by
      rw [subFlags_bits]
      rfl
  refine ⟨decode_sub a b, decode_subi a imm, fun hb => ?_, fun hz => ?_, ?_⟩
  · rw [hdifference, exec_sub hp ha hb]
  · rw [hdifference, hz, exec_subi imm hp ha]
    rfl
  · rw [hdifference]
    exact subOverflow_iff x y

/-- Settles O32: the state by `exec_cmp` and `exec_cmpi`, the signed reading by `negative_xor_overflow_iff`. -/
theorem compareResult : Obligations.CompareResult := by
  intro s a b imm x y z hp ha compared
  have hcompared : ∀ v, compared v = (s.setStatus (s.status.subFlags x v)).advanced := fun v => by
    rw [subFlags_bits]
    rfl
  refine ⟨decode_cmp a b, decode_cmpi a imm, fun hb => ?_, fun hz => ?_, ?_, ?_, ?_⟩
  · rw [hcompared, exec_cmp hp ha hb]
  · rw [hcompared, hz, exec_cmpi imm hp ha]
    rfl
  · exact decide_eq_true_iff.trans sub_eq_zero
  · exact decide_eq_true_iff
  · rw [hcompared]
    exact negative_xor_overflow_iff x y

/-! ## One register -/

theorem absValue_bits (x : Word) : absValue x = if x.getLsbD 31 then 0#32 - x else x := by
  rw [absValue, msb_eq_bit31]

/-- No exception for the most negative number: 2^31 fits as an unsigned value. -/
theorem toNat_absValue (x : Word) : (absValue x).toNat = x.toInt.natAbs := by
  have habs : absValue x = x.abs := by
    rw [absValue, BitVec.zero_sub]
    rfl
  have hlt := x.isLt
  rw [habs, BitVec.toNat_abs, BitVec.toInt_eq_msb_cond]
  split <;> omega

/-- Settles O35: `plain_update` for the three, and `toNat_absValue`. -/
theorem unaryResult : Obligations.UnaryResult := by
  intro s a x hp ha
  rw [← absValue_bits]
  exact ⟨decode_not a, plain_update _ hp ha, decode_neg a, plain_update _ hp ha, decode_abs a,
    plain_update _ hp ha, toNat_absValue x⟩

/-! ## Logic -/

/-- Settles O34: `plain_logicInto` for the four. -/
theorem logicResult : Obligations.LogicResult := by
  intro s a b x y hp ha hb hk result
  have hresult : ∀ r, result r = ((s.withReg a r).setStatus (s.status.logicFlags r)).advanced := fun r => by
    rw [logicFlags_bits]
    rfl
  have hoperand : s.logicOperand b = .ok y := logicOperand_of_holds hb hk
  simp only [hresult]
  exact ⟨decode_and a b, plain_logicInto _ hp ha hoperand, decode_andn a b, plain_logicInto _ hp ha hoperand,
    decode_or a b, plain_logicInto _ hp ha hoperand, decode_xor a b, plain_logicInto _ hp ha hoperand⟩

end Sys2Proof.Machine

/-! Shifts, moves and bit fields (41_shift_move_bitfield.md): the words of their bit rows, the values they write as
numbers, and the state each leaves. -/

namespace Sys2Proof

/-! ## One row of a format: the opcode names the instruction, the fields its operands -/

theorem decode_rr_row {l : BitVec 6} {mk : RegNum → RegNum → Instr} (a b : RegNum) (hl : l.getLsbD 5 = false)
    (hrow : ∀ w : Half, w.extractLsb' 10 6 = l → decodeOp6 w = .ok (mk (fieldA w) (fieldB w))) :
    decode (l ++ b ++ a) = .ok (mk a b) := by
  rw [decode_rr b a hl, hrow _ (rr_10_6 l b a), fieldA_rr, fieldB_rr]

theorem decode_ri5_row {l : BitVec 6} {mk : RegNum → BitVec 5 → Instr} (a : RegNum) (imm : BitVec 5)
    (hl : l.getLsbD 5 = false)
    (hrow : ∀ w : Half, w.extractLsb' 10 6 = l → decodeOp6 w = .ok (mk (fieldA w) (fieldImm5 w))) :
    decode (l ++ imm ++ a) = .ok (mk a imm) :=
  decode_rr_row a imm hl hrow

theorem decode_rw_row {l : BitVec 11} {mk : RegNum → Instr} (a : RegNum) (hl : l.extractLsb' 5 6 = 0b011111#6)
    (hrow : ∀ w : Half, w.extractLsb' 5 5 = l.extractLsb' 0 5 → decodeOp5w w = .ok (mk (fieldA w))) :
    decode (l ++ a) = .ok (mk a) := by
  rw [decode_rw a hl, hrow _ (rw_5_5 l a), fieldA_rw]

/-- op6 = 011101 hands a word to op3u (R127). -/
theorem decode_of_op3u {w : Half} (hop : w.extractLsb' 10 6 = 0b011101#6) : decode w = decodeOp3u w := by
  rw [decode_of_op6 hop rfl]
  simp only [decodeOp6, hop]

theorem decode_lsl (a b : RegNum) : decode (0b000110#6 ++ b ++ a) = .ok (.lsl a b) :=
  decode_rr_row a b rfl fun w hop => by simp only [decodeOp6, hop]

theorem decode_lsr (a b : RegNum) : decode (0b001000#6 ++ b ++ a) = .ok (.lsr a b) :=
  decode_rr_row a b rfl fun w hop => by simp only [decodeOp6, hop]

theorem decode_asr (a b : RegNum) : decode (0b001010#6 ++ b ++ a) = .ok (.asr a b) :=
  decode_rr_row a b rfl fun w hop => by simp only [decodeOp6, hop]

theorem decode_mov (a b : RegNum) : decode (0b001100#6 ++ b ++ a) = .ok (.mov a b) :=
  decode_rr_row a b rfl fun w hop => by simp only [decodeOp6, hop]

theorem decode_movi (a : RegNum) (imm : BitVec 5) : decode (0b001101#6 ++ imm ++ a) = .ok (.movi a imm) :=
  decode_ri5_row a imm rfl fun w hop => by simp only [decodeOp6, hop]

theorem decode_movhi (a : RegNum) (imm : BitVec 5) : decode (0b011011#6 ++ imm ++ a) = .ok (.movhi a imm) :=
  decode_ri5_row a imm rfl fun w hop => by simp only [decodeOp6, hop]

theorem decode_bgen (a : RegNum) (imm : BitVec 5) : decode (0b010010#6 ++ imm ++ a) = .ok (.bgen a imm) :=
  decode_ri5_row a imm rfl fun w hop => by simp only [decodeOp6, hop]

theorem decode_ext8d (a b : RegNum) : decode (0b010011#6 ++ b ++ a) = .ok (.ext8d a b) :=
  decode_rr_row a b rfl fun w hop => by simp only [decodeOp6, hop]

theorem decode_ext16d (a b : RegNum) : decode (0b011010#6 ++ b ++ a) = .ok (.ext16d a b) :=
  decode_rr_row a b rfl fun w hop => by simp only [decodeOp6, hop]

theorem decode_ext8s (a : RegNum) (n : BitVec 2) : decode (0b011101000#9 ++ n ++ a) = .ok (.ext8s a n) := by
  rw [decode_of_op3u (u2_10_6 0b011101000#9 n a)]
  simp only [decodeOp3u, u2_7_3, fieldA, fieldImm2u, u2_0_5, u2_5_2]
  rfl

theorem decode_ext16s (a : RegNum) (h : BitVec 1) :
    decode (0b011101001#9 ++ h ++ 0#1 ++ a) = .ok (.ext16s a h) := by
  rw [decode_of_op3u (u1_10_6 0b011101001#9 h 0#1 a)]
  simp only [decodeOp3u, u1_7_3, fieldA, fieldImm1u, u1_0_5, u1_6_1, u1_5_1]
  rfl

theorem decode_sext8 (a : RegNum) : decode (0b01111100011#11 ++ a) = .ok (.sext8 a) :=
  decode_rw_row a rfl fun w hop => by simp [decodeOp5w, hop]

theorem decode_sext16 (a : RegNum) : decode (0b01111100100#11 ++ a) = .ok (.sext16 a) :=
  decode_rw_row a rfl fun w hop => by simp [decodeOp5w, hop]

theorem decode_swap (a : RegNum) : decode (0b01111101000#11 ++ a) = .ok (.swap a) :=
  decode_rw_row a rfl fun w hop => by simp [decodeOp5w, hop]

theorem decode_fill8 (a : RegNum) : decode (0b01111110010#11 ++ a) = .ok (.fill8 a) :=
  decode_rw_row a rfl fun w hop => by simp [decodeOp5w, hop]

theorem decode_fill16 (a : RegNum) : decode (0b01111110011#11 ++ a) = .ok (.fill16 a) :=
  decode_rw_row a rfl fun w hop => by simp [decodeOp5w, hop]

end Sys2Proof

namespace Sys2Proof.Machine

/-! ## The values written, as numbers -/

theorem shiftLeft_eq_ofNat_mul {w : Nat} (x : BitVec w) (n : Nat) : x <<< n = BitVec.ofNat w (x.toNat * 2 ^ n) := by
  rw [← Nat.shiftLeft_eq]
  rfl

theorem ushiftRight_eq_ofNat_div {w : Nat} (x : BitVec w) (n : Nat) : x >>> n = BitVec.ofNat w (x.toNat / 2 ^ n) := by
  rw [← Nat.shiftRight_eq_div_pow, ← BitVec.toNat_ushiftRight, BitVec.ofNat_toNat, BitVec.setWidth_eq]

/-- Division of integers by a positive power rounds toward minus infinity, as the filling with the sign does (R195). -/
theorem sshiftRight_eq_ofInt_div {w : Nat} (x : BitVec w) (n : Nat) :
    x.sshiftRight n = BitVec.ofInt w (x.toInt / (2 ^ n : Nat)) := by
  rw [BitVec.sshiftRight_eq, Int.shiftRight_eq_div_pow]

theorem toNat_append_eq_mul_add {m n : Nat} (x : BitVec m) (y : BitVec n) :
    (x ++ y).toNat = 2 ^ n * x.toNat + y.toNat := by
  rw [BitVec.toNat_append, ← Nat.shiftLeft_add_eq_or_of_lt y.isLt, Nat.shiftLeft_eq, Nat.mul_comm]

/-- A field zero-extended is a quotient by a power of two, modulo another. -/
theorem setWidth_extractLsb' {w : Nat} (x : BitVec w) (s l v : Nat) :
    (x.extractLsb' s l).setWidth v = BitVec.ofNat v (x.toNat / 2 ^ s % 2 ^ l) := by
  rw [← BitVec.ofNat_toNat, BitVec.extractLsb'_toNat, Nat.shiftRight_eq_div_pow]

theorem toNat_shiftAmount (y : Word) : (shiftAmount y).toNat = y.toNat % 32 := BitVec.extractLsb'_toNat 0 5 y

theorem toNat_byteLane (y : Word) : (byteLane y).toNat = y.toNat % 4 := BitVec.extractLsb'_toNat 0 2 y

theorem toNat_halfLane (y : Word) : (halfLane y).toNat = y.toNat / 2 % 2 := BitVec.extractLsb'_toNat 1 1 y

theorem byteOf_zero (x : Word) : byteOf x 0#2 = BitVec.ofNat 8 x.toNat := rfl

theorem halfOf_zero (x : Word) : halfOf x 0#1 = BitVec.ofNat 16 x.toNat := rfl

theorem toNat_imm16 (k : BitVec 11) (imm : BitVec 5) : (imm16 k imm).toNat = 32 * k.toNat + imm.toNat :=
  toNat_append_eq_mul_add k imm

theorem immOperand_eq_ofNat (k : BitVec 11) (imm : BitVec 5) :
    immOperand k imm = BitVec.ofNat 32 (32 * k.toNat + imm.toNat) := by
  rw [immOperand, ← BitVec.ofNat_toNat, toNat_imm16]

theorem withHighHalf_eq_ofNat (k : BitVec 11) (imm : BitVec 5) (x : Word) :
    withHighHalf k imm x = BitVec.ofNat 32 (2 ^ 16 * (32 * k.toNat + imm.toNat) + x.toNat % 2 ^ 16) := by
  have hlow : (x.extractLsb' 0 16).toNat = x.toNat % 2 ^ 16 := BitVec.extractLsb'_toNat 0 16 x
  rw [← toNat_imm16, ← hlow, ← toNat_append_eq_mul_add, BitVec.ofNat_toNat, BitVec.setWidth_eq]
  rfl

theorem one_shiftLeft_eq_ofNat (imm : BitVec 5) : 1#32 <<< imm.toNat = BitVec.ofNat 32 (2 ^ imm.toNat) := by
  rw [shiftLeft_eq_ofNat_mul]
  simp

theorem swapHalves_eq_or (x : Word) : swapHalves x = (x <<< 16) ||| (x >>> 16) := by
  apply BitVec.eq_of_getLsbD_eq
  intro i hi
  rw [swapHalves, BitVec.getLsbD_append]
  by_cases hlow : i < 16
  · simp [hlow]
  · have hhalf : i - 16 < 16 := by omega
    simp [hlow, hi, hhalf, BitVec.getLsbD_of_ge x (16 + i) (by omega), -BitVec.getLsbD_eq_getElem]

/-- Four equal digits in base 256: the digit times 0x01010101. -/
theorem fillByte_eq_ofNat (b : Byte) : fillByte b = BitVec.ofNat 32 (b.toNat * 0x01010101) := by
  apply BitVec.eq_of_toNat_eq
  have hb := b.isLt
  simp only [fillByte, toNat_append_eq_mul_add, BitVec.toNat_ofNat]
  omega

/-- Two equal digits in base 65536: the digit times 0x00010001. -/
theorem fillHalf_eq_ofNat (h : Half) : fillHalf h = BitVec.ofNat 32 (h.toNat * 0x00010001) := by
  apply BitVec.eq_of_toNat_eq
  have hh := h.isLt
  simp only [fillHalf, toNat_append_eq_mul_add, BitVec.toNat_ofNat]
  omega

/-! ## The state left by a combination of two registers and by a write -/

theorem plain_combine {s : State} {a b : RegNum} {x y : Word} (f : Word → Word → Word) (hp : s.iobyp = false)
    (ha : Holds s a x) (hb : Holds s b y) :
    s.plain (s.combine a b f) = .next (s.withReg a (f x y)).advanced :=
  plain_advanced hp (combine_of_read f (readReg_of_holds ha) (readReg_of_holds hb))

theorem plain_writeReg {s : State} {a : RegNum} (v : Word) (hp : s.iobyp = false) (ha : RegExists s a) :
    s.plain (s.writeReg a v) = .next (s.withReg a v).advanced :=
  plain_advanced hp (writeReg_of_exists v ha)

/-- MOV, FILL8 and FILL16 read one register and write another. -/
theorem plain_read_writeReg {s : State} {r q : RegNum} {x : Word} (f : Word → Word) (hp : s.iobyp = false)
    (hr : Holds s r x) (hq : RegExists s q) :
    s.plain (do let v ← s.readReg r; s.writeReg q (f v)) = .next (s.withReg q (f x)).advanced :=
  plain_advanced hp (by rw [readReg_of_holds hr, ok_bind, writeReg_of_exists _ hq])

/-! ## The obligations -/

/-- Settles O37: `plain_combine`, each shift read as arithmetic. -/
theorem registerShiftResult : Obligations.RegisterShiftResult := by
  intro s a b x y hp ha hb
  rw [← toNat_shiftAmount, ← shiftLeft_eq_ofNat_mul, ← ushiftRight_eq_ofNat_div, ← sshiftRight_eq_ofInt_div]
  exact ⟨decode_lsl a b, plain_combine _ hp ha hb, decode_lsr a b, plain_combine _ hp ha hb, decode_asr a b,
    plain_combine _ hp ha hb⟩

/-- Settles O40: `plain_writeReg` for the constants, `plain_update` for what depends on x[A]; NOP is the word of
MOV %g0,%g0. -/
theorem moveResult : Obligations.MoveResult := by
  intro s a b imm x y hp ha
  have hexists : RegExists s a := regExists_of_holds ha
  rw [← immOperand_eq_ofNat, ← withHighHalf_eq_ofNat, ← one_shiftLeft_eq_ofNat, ← swapHalves_eq_or]
  exact ⟨decode_mov a b, fun hb => plain_read_writeReg id hp hb hexists, decode_movi a imm,
    plain_writeReg _ hp hexists, decode_movhi a imm, plain_update _ hp ha, decode_bgen a imm,
    plain_writeReg _ hp hexists, decode_swap a, plain_update _ hp ha, decode_mov 0#5 0#5⟩

/-- Settles O41: `plain_update`, and the sign extension is that of the signed value. -/
theorem signExtensionResult : Obligations.SignExtensionResult := by
  intro s a x hp ha
  rw [← byteOf_zero, ← halfOf_zero]
  exact ⟨decode_sext8 a, plain_update _ hp ha, decode_sext16 a, plain_update _ hp ha⟩

/-- Settles O42: `plain_combine` and `plain_update`, the selected field by `setWidth_extractLsb'`. -/
theorem extractResult : Obligations.ExtractResult := by
  intro s a b n h x y hp ha hb
  rw [← toNat_byteLane, ← toNat_halfLane]
  simp only [← setWidth_extractLsb']
  exact ⟨decode_ext8d a b, plain_combine _ hp ha hb, decode_ext8s a n, plain_update _ hp ha, decode_ext16d a b,
    plain_combine _ hp ha hb, decode_ext16s a h, plain_update _ hp ha⟩

/-- Settles O43: `plain_read_writeReg`, the filled word by `fillByte_eq_ofNat` and `fillHalf_eq_ofNat`. -/
theorem fillResult : Obligations.FillResult := by
  intro s a x hp ha h0
  rw [← BitVec.toNat_ofNat, ← BitVec.toNat_ofNat, ← fillByte_eq_ofNat, ← fillHalf_eq_ofNat, ← byteOf_zero,
    ← halfOf_zero]
  exact ⟨decode_fill8 a, plain_read_writeReg _ hp ha h0, decode_fill16 a, plain_read_writeReg _ hp ha h0⟩

end Sys2Proof.Machine

/-! Prefixes and skips (43_prefix_skip.md): the words of their bit rows, the state a prefix leaves, and where a skip goes
on by its test and by the word it looks ahead at. -/

namespace Sys2Proof

/-! ## The bit rows of the prefixes and the skips -/

/-- A prefix is read by bits 15..11, after none of the shorter opcodes has matched (R125). -/
theorem decode_pfx (imm : BitVec 11) : decode (0b10011#5 ++ imm) = .ok (.pfx imm) := by
  simp only [decode, i11_13_3, i11_12_4, i11_11_5, fieldImm11, i11_0_11]
  rfl

theorem decode_pfxio (imm : BitVec 11) : decode (0b10010#5 ++ imm) = .ok (.pfxio imm) := by
  simp only [decode, i11_13_3, i11_12_4, i11_11_5, fieldImm11, i11_0_11]
  rfl

theorem decode_skp0 (a : RegNum) (imm : BitVec 5) : decode (0b010100#6 ++ imm ++ a) = .ok (.skp0 a imm) :=
  decode_ri5_row a imm rfl fun w hop => by simp only [decodeOp6, hop]

theorem decode_skp1 (a : RegNum) (imm : BitVec 5) : decode (0b010101#6 ++ imm ++ a) = .ok (.skp1 a imm) :=
  decode_ri5_row a imm rfl fun w hop => by simp only [decodeOp6, hop]

theorem decode_skprz (a : RegNum) : decode (0b01111110110#11 ++ a) = .ok (.skprz a) :=
  decode_rw_row a rfl fun w hop => by simp [decodeOp5w, hop]

theorem decode_skprnz (a : RegNum) : decode (0b01111111010#11 ++ a) = .ok (.skprnz a) :=
  decode_rw_row a rfl fun w hop => by simp [decodeOp5w, hop]

/-- op6 = 011111 hands a word to op5w (R129). -/
theorem decode_of_op5w {w : Half} (hop : w.extractLsb' 10 6 = 0b011111#6) : decode w = decodeOp5w w := by
  rw [decode_of_op6 hop rfl]
  simp only [decodeOp6, hop]

/-- A code that the table of R257 defines is a condition of SKPS. -/
theorem decode_skps {cc : BitVec 4} (hcc : conditionDefined cc = true) :
    decode (0b011111101110#12 ++ cc) = .ok (.skps cc) := by
  rw [decode_of_op5w (i4w_10_6 0b011111101110#12 cc)]
  simp [decodeOp5w, i4w_5_5, i4w_4_1, fieldImm4w, i4w_0_4, hcc]

end Sys2Proof

namespace Sys2Proof.Machine

/-! ## The tests of the skips, as facts about numbers -/

theorem getLsbD_iff_div_mod {n : Nat} (x : BitVec n) (i : Nat) :
    x.getLsbD i = true ↔ x.toNat / 2 ^ i % 2 = 1 := by
  rw [← BitVec.testBit_toNat, Nat.testBit_eq_decide_div_mod_eq, decide_eq_true_iff]

theorem not_getLsbD_iff_div_mod {n : Nat} (x : BitVec n) (i : Nat) :
    (!x.getLsbD i) = true ↔ x.toNat / 2 ^ i % 2 = 0 := by
  rw [Bool.not_eq_true', ← Bool.not_eq_true, getLsbD_iff_div_mod, Nat.mod_two_not_eq_one]

/-- The fourteen defined conditions are the table of R257, line by line. -/
theorem condition_ofNat (st : Status) (cc : Fin 14) :
    st.condition (BitVec.ofNat 4 cc) = some (skipConditions st cc) := by
  fin_cases cc <;> rfl

theorem conditionDefined_ofNat (cc : Fin 14) : conditionDefined (BitVec.ofNat 4 cc) = true := by
  fin_cases cc <;> rfl

/-- Masking off the low twelve bits keeps the multiple of 2^12 below the number, so the mask of R253 compares bits
15..12. -/
theorem isPrefixWord_iff (w : Half) : isPrefixWord w = true ↔ w.toNat / 2 ^ 12 = 9 := by
  have hmask : w &&& 0xF000#16 = w >>> 12 <<< 12 := by
    rw [BitVec.shiftLeft_ushiftRight]
    rfl
  have hw := w.isLt
  rw [isPrefixWord, beq_iff_eq, hmask, ← BitVec.toNat_inj, BitVec.toNat_shiftLeft, BitVec.toNat_ushiftRight,
    Nat.shiftRight_eq_div_pow, Nat.shiftLeft_eq, BitVec.toNat_ofNat]
  omega

/-! ## The state a prefix and a skip leave -/

/-- A prefix that follows no prefix and stands in no slot loads K and goes on in sequence. -/
theorem takePrefix_of {s : State} (imm : BitVec 11) (io : Bool) (hd : s.delay = none) (hk : s.pfx = false)
    (hp : s.iobyp = false) :
    s.takePrefix imm io = .next { s with pc := s.pc + 2#32, k := imm, pfx := true, iobyp := io } := by
  have hload : s.loadPrefix imm io = { s with pc := s.pc + 2#32, k := imm, pfx := true, iobyp := io } := by
    simp [State.loadPrefix, State.nextPc, State.setPfx, State.setPc, hd]
  simp [State.takePrefix, hd, hk, hp, hload]

/-- Where a skip that is taken goes on, after a look-ahead that read `w` and left `u` (R253). -/
def skippedOver (s u : State) (w : Half) : State :=
  u.jumped (if w.toNat / 2 ^ 12 = 9 then s.pc + 6#32 else s.pc + 4#32)

theorem skip_of_fetch {s u : State} {w : Half} (hf : s.fetch (s.pc + 2#32) = .ok (w, u)) :
    s.skip = .ok (skippedOver s u w) := by
  simp only [State.skip, hf, ok_bind, isPrefixWord_iff]
  rfl

/-- The skip rule, its test read as a proposition. -/
theorem skipIf_of_fetch {s u : State} {w : Half} {cond : Bool} {p : Prop} [Decidable p] (hcond : cond = true ↔ p)
    (hf : s.fetch (s.pc + 2#32) = .ok (w, u)) :
    s.skipIf cond = .ok (if p then skippedOver s u w else s.jumped (s.pc + 2#32)) := by
  simp only [State.skipIf, hcond]
  split
  · exact skip_of_fetch hf
  · rfl

/-- A skip on a register's value: read it, then the skip rule. -/
theorem transfer_skipIf {s u : State} {a : RegNum} {x : Word} {w : Half} {test : Word → Bool} {p : Prop} [Decidable p]
    (hp : s.iobyp = false) (hd : s.delay = none) (ha : Holds s a x) (hf : s.fetch (s.pc + 2#32) = .ok (w, u))
    (htest : test x = true ↔ p) :
    s.transfer (do let v ← s.readReg a; s.skipIf (test v)) =
      .next (if p then skippedOver s u w else s.jumped (s.pc + 2#32)) :=
  transfer_of hd hp (by rw [readReg_of_holds ha, ok_bind, skipIf_of_fetch htest hf])

/-- A skip on the flags: the condition is defined, then the skip rule. -/
theorem exec_skps {s u : State} {w : Half} (cc : Fin 14) (hp : s.iobyp = false) (hd : s.delay = none)
    (hf : s.fetch (s.pc + 2#32) = .ok (w, u)) :
    exec (.skps (BitVec.ofNat 4 cc)) s =
      .next (if skipConditions s.status cc then skippedOver s u w else s.jumped (s.pc + 2#32)) :=
  transfer_of hd hp (by rw [condition_ofNat]; exact skipIf_of_fetch Iff.rfl hf)

/-! ## The obligations -/

/-- Settles O51: `fetch_frame` for what the look-ahead changes, `transfer_skipIf` for the four register tests and
`exec_skps` for the fourteen conditions. -/
theorem skipTaken : Obligations.SkipTaken := by
  intro s u a imm x w hp hd ha hf
  obtain ⟨d, f, rfl⟩ := fetch_frame hf
  exact ⟨rfl, decode_skp0 a imm, transfer_skipIf hp hd ha hf (not_getLsbD_iff_div_mod x _),
    decode_skp1 a imm, transfer_skipIf hp hd ha hf (getLsbD_iff_div_mod x _),
    decode_skprz a, transfer_skipIf hp hd ha hf beq_iff_eq,
    decode_skprnz a, transfer_skipIf hp hd ha hf bne_iff_ne,
    fun cc => ⟨decode_skps (conditionDefined_ofNat cc), exec_skps cc hp hd hf⟩⟩

/-- Settles O49: `takePrefix_of` for each of the two prefixes. -/
theorem prefixResult : Obligations.PrefixResult := by
  intro s imm hd hk hp
  exact ⟨decode_pfx imm, takePrefix_of imm false hd hk hp, decode_pfxio imm, takePrefix_of imm true hd hk hp⟩

end Sys2Proof.Machine

/-! Branches, jumps and calls (44_control_transfer.md): the words of their bit rows, the target of a relative branch as
a number, and the state a branch and a linking branch leave. -/

namespace Sys2Proof

/-! ## The bit rows of the branches and the jumps -/

theorem decode_br (imm : BitVec 11) : decode (0b10000#5 ++ imm) = .ok (.br imm) := by
  simp only [decode, i11_13_3, i11_12_4, i11_11_5, fieldImm11, i11_0_11]
  rfl

theorem decode_bsr (imm : BitVec 11) : decode (0b10001#5 ++ imm) = .ok (.bsr imm) := by
  simp only [decode, i11_13_3, i11_12_4, i11_11_5, fieldImm11, i11_0_11]
  rfl

theorem decode_jmp (a : RegNum) : decode (0b01111111110#11 ++ a) = .ok (.jmp a) :=
  decode_rw_row a rfl fun w hop => by simp [decodeOp5w, hop]

theorem decode_call (a : RegNum) : decode (0b01111111111#11 ++ a) = .ok (.call a) :=
  decode_rw_row a rfl fun w hop => by simp [decodeOp5w, hop]

end Sys2Proof

namespace Sys2Proof.Machine

/-! ## Where a branch goes -/

/-- The shift of R271 doubles, and sum and product modulo 2^32 are those of the signed count of half-words. -/
theorem branchTarget_eq_add_ofInt (pc : Word) (imm : BitVec 11) :
    branchTarget pc imm = pc + BitVec.ofInt 32 (2 + 2 * imm.toInt) := by
  have hdouble : (imm.signExtend 32 + 1#32) <<< 1 = BitVec.ofInt 32 (2 + 2 * imm.toInt) := by
    have hone : 1#32 = BitVec.ofInt 32 1 := rfl
    have htwo : BitVec.twoPow 32 1 = BitVec.ofInt 32 2 := rfl
    rw [BitVec.signExtend, BitVec.shiftLeft_eq_mul_twoPow, hone, htwo, ← BitVec.ofInt_add, ← BitVec.ofInt_mul]
    congr 1
    omega
  rw [branchTarget, hdouble]

/-- A code address is even whatever the register holds (R273). -/
theorem codeAddress_even (x : Word) : (codeAddress x).getLsbD 0 = false := by
  rw [codeAddress, BitVec.getLsbD_shiftLeft]
  rfl

/-! ## The state a branch leaves -/

theorem branchTo_eq_branched (s : State) (target : Word) : s.branchTo target = s.branched target := rfl

/-- BSR and CALL: the half-word address after the slot goes to %o7, then the branch is taken (R272, R274). -/
theorem link_branchTo {s : State} (target : Word) (h : RegExists s 15#5) :
    (do let t ← s.writeReg 15#5 (returnAddress (s.pc + 4#32)); .ok (t.branchTo target)) =
      (.ok ((s.withReg 15#5 ((s.pc + 4#32) >>> 1)).branched target) : Except Fault State) := by
  rw [writeReg_of_exists _ h, ok_bind, branchTo_eq_branched, returnAddress]

/-! ## The obligations -/

/-- Settles O52: the target by `branchTarget_eq_add_ofInt`, the link of BSR by `link_branchTo`. -/
theorem relativeBranchResult : Obligations.RelativeBranchResult := by
  intro s imm hp hd
  rw [← branchTarget_eq_add_ofInt]
  exact ⟨decode_br imm, transfer_of hd hp (by rw [branchTo_eq_branched]), decode_bsr imm,
    fun h15 => transfer_of hd hp (link_branchTo _ h15)⟩

/-- Settles O53: x[A] is read first, so the target is the old x[A] also where A is %o7. -/
theorem jumpResult : Obligations.JumpResult := by
  intro s a x hp hd ha
  have hread : s.readReg a = .ok x := readReg_of_holds ha
  exact ⟨decode_jmp a, transfer_of hd hp (by rw [hread, ok_bind, branchTo_eq_branched, codeAddress]), decode_call a,
    fun h15 => transfer_of hd hp (by rw [hread, ok_bind]; exact link_branchTo _ h15), codeAddress_even x⟩

end Sys2Proof.Machine

/-! The decoder and the encoder against each other (30_encoding.md sections 1 to 4): decoding an encoded instruction gives it
back, a word that decodes is its instruction's encoding, and the words of rule R131 are rejected. -/

namespace Sys2Proof

/-! ## The rows that are read after op6 -/

/-- op6 = 011110 hands a word to op2v (R128). -/
theorem decode_of_op2v {w : Half} (hop : w.extractLsb' 10 6 = 0b011110#6) : decode w = decodeOp2v w := by
  rw [decode_of_op6 hop rfl]
  simp only [decodeOp6, hop]

theorem decode_st8s (a : RegNum) (n : BitVec 2) : decode (0b011101100#9 ++ n ++ a) = .ok (.st8s a n) := by
  rw [decode_of_op3u (u2_10_6 0b011101100#9 n a)]
  simp only [decodeOp3u, u2_7_3, fieldA, fieldImm2u, u2_0_5, u2_5_2]
  rfl

/-- Format Ri1u keeps bit 5 for a 0 (R122); the row is chosen by op3u. -/
theorem decode_st16s (a : RegNum) (h : BitVec 1) : decode (0b011101101#9 ++ h ++ 0#1 ++ a) = .ok (.st16s a h) := by
  rw [decode_of_op3u (u1_10_6 0b011101101#9 h 0#1 a)]
  simp only [decodeOp3u, u1_7_3, fieldA, fieldImm1u, u1_0_5, u1_6_1, u1_5_1]
  rfl

theorem decode_save (imm : BitVec 8) : decode (0b01111000#8 ++ imm) = .ok (.save imm) := by
  rw [decode_of_op2v (i8v_10_6 0b01111000#8 imm)]
  simp only [decodeOp2v, i8v_8_2, fieldImm8v, i8v_0_8]
  rfl

theorem decode_trap (imm : BitVec 6) : decode (0b0111100100#10 ++ imm) = .ok (.trap imm) := by
  rw [decode_of_op2v (i6v_10_6 0b0111100100#10 imm)]
  simp only [decodeOp2v, i6v_8_2, i6v_6_2, fieldImm6v, i6v_0_6]
  rfl

theorem decode_sts8s (imm : BitVec 10) : decode (0b011000#6 ++ imm) = .ok (.sts8s imm) := by
  rw [decode_of_op6 (i10_10_6 0b011000#6 imm) rfl]
  simp only [decodeOp6, i10_10_6, fieldImm10, i10_0_10]

theorem decode_sts16s (imm : BitVec 9) : decode (0b011001#6 ++ imm ++ 0#1) = .ok (.sts16s imm) := by
  rw [decode_of_op6 (i9_10_6 0b011001#6 imm 0#1) rfl]
  simp only [decodeOp6, i9_10_6, i9_0_1, fieldImm9, i9_1_9, if_true]

/-! ## The rows that bits 15 to 12 choose -/

theorem decode_lds (a : RegNum) (imm : BitVec 8) : decode (0b111#3 ++ imm ++ a) = .ok (.lds a imm) := by
  simp only [decode, ri8_13_3, fieldA, ri8_0_5, fieldImm8, ri8_5_8, if_true]

theorem decode_sts (a : RegNum) (imm : BitVec 8) : decode (0b110#3 ++ imm ++ a) = .ok (.sts a imm) := by
  simp only [decode, ri8_13_3, fieldA, ri8_0_5, fieldImm8, ri8_5_8]
  rfl

theorem decode_ldp (a : RegNum) (p : BitVec 2) (imm : BitVec 5) :
    decode (0b1011#4 ++ p ++ imm ++ a) = .ok (.ldp a p imm) := by
  simp only [decode, rp_13_3, rp_12_4, fieldA, rp_0_5, fieldP, rp_10_2, fieldImm5, rp_5_5]
  rfl

theorem decode_stp (a : RegNum) (p : BitVec 2) (imm : BitVec 5) :
    decode (0b1010#4 ++ p ++ imm ++ a) = .ok (.stp a p imm) := by
  simp only [decode, rp_13_3, rp_12_4, fieldA, rp_0_5, fieldP, rp_10_2, fieldImm5, rp_5_5]
  rfl

/-! ## Decoding what was encoded -/

/-- By format: in each the opcode bits choose the row and every field is read where the row puts it. -/
theorem decode_encode (i : Instr) (hi : i.wellFormed = true) : decode (encode i) = .ok i := by
  cases i with
  | add a b | sub a b | cmp a b | lsl a b | lsr a b | asr a b | mov a b | and a b | andn a b | or a b | xor a b
  | ext8d a b | ext16d a b | ld a b | st a b | usr0 a b =>
    exact decode_rr_row a b rfl fun w hop => by simp only [decodeOp6, hop]
  | addi a imm | subi a imm | cmpi a imm | lsli a imm | lsri a imm | asri a imm | movi a imm | movhi a imm
  | bgen a imm | skp0 a imm | skp1 a imm =>
    exact decode_ri5_row a imm rfl fun w hop => by simp only [decodeOp6, hop]
  | not a | neg a | abs a | sext8 a | sext16 a | rlc a | rrc a | swap a | usr1 a | usr2 a | usr3 a | usr4 a | tret a
  | st8d a | st16d a | fill8 a | fill16 a | mstep a | mul a | skprz a | wrctl a | rdctl a | skprnz a | jmp a
  | call a =>
    exact decode_rw_row a rfl fun w hop => by simp [decodeOp5w, hop]
  | skps cc => exact decode_skps hi
  | restore => rfl
  | ext8s a n => exact decode_ext8s a n
  | ext16s a h => exact decode_ext16s a h
  | st8s a n => exact decode_st8s a n
  | st16s a h => exact decode_st16s a h
  | save imm => exact decode_save imm
  | trap imm => exact decode_trap imm
  | sts8s imm => exact decode_sts8s imm
  | sts16s imm => exact decode_sts16s imm
  | br imm => exact decode_br imm
  | bsr imm => exact decode_bsr imm
  | pfx imm => exact decode_pfx imm
  | pfxio imm => exact decode_pfxio imm
  | ldp a p imm => exact decode_ldp a p imm
  | stp a p imm => exact decode_stp a p imm
  | lds a imm => exact decode_lds a imm
  | sts a imm => exact decode_sts a imm

/-- Settles O1, by `decode_encode`, format by format. -/
theorem decodeEncode : Obligations.DecodeEncode := decode_encode


/-! ## Encoding what was decoded -/

/-- `w` is the word of the instruction `i`. -/
def WordOf (w : Half) (i : Instr) : Prop := i.wellFormed = true ∧ encode i = w

/-- The fixed bits that lead a row, where the decoder reads them in two parts. -/
theorem leading_bits {w : Half} {s m n : Nat} {p : BitVec m} {q : BitVec n} (hp : w.extractLsb' (s + n) m = p)
    (hq : w.extractLsb' s n = q) : w.extractLsb' s (m + n) = p ++ q := by
  rw [← hp, ← hq]
  exact (BitVec.extractLsb'_append_extractLsb'_eq_extractLsb' rfl).symm

/-- Format RR, which Ri5 shares. -/
theorem row_rr {w : Half} {l : BitVec 6} (h : w.extractLsb' 10 6 = l) : l ++ fieldB w ++ fieldA w = w := by
  subst h
  simp only [fieldA, fieldB, BitVec.extractLsb'_append_extractLsb'_eq_extractLsb', BitVec.extractLsb'_eq_self]

theorem row_rw {w : Half} {l : BitVec 11} (h : w.extractLsb' 5 11 = l) : l ++ fieldA w = w := by
  subst h
  simp only [fieldA, BitVec.extractLsb'_append_extractLsb'_eq_extractLsb', BitVec.extractLsb'_eq_self]

theorem row_i10 {w : Half} {l : BitVec 6} (h : w.extractLsb' 10 6 = l) : l ++ fieldImm10 w = w := by
  subst h
  simp only [fieldImm10, BitVec.extractLsb'_append_extractLsb'_eq_extractLsb', BitVec.extractLsb'_eq_self]

theorem row_i9 {w : Half} {l : BitVec 6} {z : BitVec 1} (h : w.extractLsb' 10 6 = l) (hz : w.extractLsb' 0 1 = z) :
    l ++ fieldImm9 w ++ z = w := by
  subst h hz
  simp only [fieldImm9, BitVec.extractLsb'_append_extractLsb'_eq_extractLsb', BitVec.extractLsb'_eq_self]

theorem row_ri2u {w : Half} {l : BitVec 9} (h : w.extractLsb' 7 9 = l) : l ++ fieldImm2u w ++ fieldA w = w := by
  subst h
  simp only [fieldImm2u, fieldA, BitVec.extractLsb'_append_extractLsb'_eq_extractLsb', BitVec.extractLsb'_eq_self]

theorem row_ri1u {w : Half} {l : BitVec 9} {z : BitVec 1} (h : w.extractLsb' 7 9 = l) (hz : w.extractLsb' 5 1 = z) :
    l ++ fieldImm1u w ++ z ++ fieldA w = w := by
  subst h hz
  simp only [fieldImm1u, fieldA, BitVec.extractLsb'_append_extractLsb'_eq_extractLsb', BitVec.extractLsb'_eq_self]

theorem row_i8v {w : Half} {l : BitVec 8} (h : w.extractLsb' 8 8 = l) : l ++ fieldImm8v w = w := by
  subst h
  simp only [fieldImm8v, BitVec.extractLsb'_append_extractLsb'_eq_extractLsb', BitVec.extractLsb'_eq_self]

theorem row_i6v {w : Half} {l : BitVec 10} (h : w.extractLsb' 6 10 = l) : l ++ fieldImm6v w = w := by
  subst h
  simp only [fieldImm6v, BitVec.extractLsb'_append_extractLsb'_eq_extractLsb', BitVec.extractLsb'_eq_self]

theorem row_i4w {w : Half} {l : BitVec 12} (h : w.extractLsb' 4 12 = l) : l ++ fieldImm4w w = w := by
  subst h
  simp only [fieldImm4w, BitVec.extractLsb'_append_extractLsb'_eq_extractLsb', BitVec.extractLsb'_eq_self]

theorem row_i11 {w : Half} {l : BitVec 5} (h : w.extractLsb' 11 5 = l) : l ++ fieldImm11 w = w := by
  subst h
  simp only [fieldImm11, BitVec.extractLsb'_append_extractLsb'_eq_extractLsb', BitVec.extractLsb'_eq_self]

theorem row_rpi5 {w : Half} {l : BitVec 4} (h : w.extractLsb' 12 4 = l) :
    l ++ fieldP w ++ fieldImm5 w ++ fieldA w = w := by
  subst h
  simp only [fieldP, fieldImm5, fieldA, BitVec.extractLsb'_append_extractLsb'_eq_extractLsb',
    BitVec.extractLsb'_eq_self]

theorem row_ri8 {w : Half} {l : BitVec 3} (h : w.extractLsb' 13 3 = l) : l ++ fieldImm8 w ++ fieldA w = w := by
  subst h
  simp only [fieldImm8, fieldA, BitVec.extractLsb'_append_extractLsb'_eq_extractLsb', BitVec.extractLsb'_eq_self]

theorem wordOf_op3u {w : Half} {i : Instr} (hop : w.extractLsb' 10 6 = 0b011101#6) (h : decodeOp3u w = .ok i) :
    WordOf w i := by
  unfold decodeOp3u at h
  split at h
  case h_1 hrow | h_3 hrow =>
    obtain rfl := Except.ok.inj h
    exact ⟨rfl, row_ri2u (leading_bits hop hrow)⟩
  case h_2 hrow | h_4 hrow =>
    split at h
    · obtain rfl := Except.ok.inj h
      exact ⟨rfl, row_ri1u (leading_bits hop hrow) ‹_›⟩
    · cases h
  case h_5 => cases h

theorem wordOf_op2v {w : Half} {i : Instr} (hop : w.extractLsb' 10 6 = 0b011110#6) (h : decodeOp2v w = .ok i) :
    WordOf w i := by
  unfold decodeOp2v at h
  split at h
  case h_1 hrow =>
    obtain rfl := Except.ok.inj h
    exact ⟨rfl, row_i8v (leading_bits hop hrow)⟩
  case h_2 hrow =>
    split at h
    · obtain rfl := Except.ok.inj h
      exact ⟨rfl, row_i6v (leading_bits (leading_bits hop hrow) ‹_›)⟩
    · cases h
  case h_3 => cases h

/-- The rows of op5w name x[A] but for RESTORE, whose low bits are fixed, and SKPS, whose code must be defined. -/
theorem wordOf_op5w {w : Half} {i : Instr} (hop : w.extractLsb' 10 6 = 0b011111#6) (h : decodeOp5w w = .ok i) :
    WordOf w i := by
  unfold decodeOp5w at h
  split at h
  case h_13 hrow =>
    split at h
    · obtain rfl := Except.ok.inj h
      have hw := leading_bits (leading_bits hop hrow) ‹w.extractLsb' 0 5 = 0#5›
      exact ⟨rfl, hw.symm.trans BitVec.extractLsb'_eq_self⟩
    · cases h
  case h_22 hrow =>
    split at h
    · split at h
      · obtain rfl := Except.ok.inj h
        exact ⟨‹_›, row_i4w (leading_bits (leading_bits hop hrow) ‹_›)⟩
      · cases h
    · cases h
  case h_28 => cases h
  all_goals
    rename_i hrow
    obtain rfl := Except.ok.inj h
    exact ⟨rfl, row_rw (leading_bits hop hrow)⟩

/-- The rows of op6 are of format RR or Ri5 but for STS8S, STS16S and the three that hand on. -/
theorem wordOf_op6 {w : Half} {i : Instr} (h : decodeOp6 w = .ok i) : WordOf w i := by
  unfold decodeOp6 at h
  split at h
  case h_25 hop =>
    obtain rfl := Except.ok.inj h
    exact ⟨rfl, row_i10 hop⟩
  case h_26 hop =>
    split at h
    · obtain rfl := Except.ok.inj h
      exact ⟨rfl, row_i9 hop ‹_›⟩
    · cases h
  case h_30 hop => exact wordOf_op3u hop h
  case h_31 hop => exact wordOf_op2v hop h
  case h_32 hop => exact wordOf_op5w hop h
  case h_33 => cases h
  all_goals
    obtain rfl := Except.ok.inj h
    exact ⟨rfl, row_rr ‹_›⟩

/-- The eight rows that bits 15 to 11 choose, then op6. -/
theorem wordOf_decode {w : Half} {i : Instr} (h : decode w = .ok i) : WordOf w i := by
  unfold decode at h
  split at h
  · obtain rfl := Except.ok.inj h
    exact ⟨rfl, row_ri8 ‹_›⟩
  split at h
  · obtain rfl := Except.ok.inj h
    exact ⟨rfl, row_ri8 ‹_›⟩
  split at h
  · obtain rfl := Except.ok.inj h
    exact ⟨rfl, row_rpi5 ‹_›⟩
  split at h
  · obtain rfl := Except.ok.inj h
    exact ⟨rfl, row_rpi5 ‹_›⟩
  iterate 4
    split at h
    · obtain rfl := Except.ok.inj h
      exact ⟨rfl, row_i11 ‹_›⟩
  exact wordOf_op6 h

/-- Settles O2, by the case split of the decoder. -/
theorem encodeDecode : Obligations.EncodeDecode := fun _ _ => wordOf_decode


/-! ## Words that are no instruction (R131) -/

theorem decode_sts16s_fixed (imm : BitVec 9) : decode (0b011001#6 ++ imm ++ 1#1) = .error .fixedBitSet := by
  rw [decode_of_op6 (i9_10_6 0b011001#6 imm 1#1) rfl]
  simp only [decodeOp6, i9_10_6, i9_0_1]
  rfl

theorem decode_ext16s_fixed (imm : BitVec 1) (a : RegNum) :
    decode (0b011101001#9 ++ imm ++ 1#1 ++ a) = .error .fixedBitSet := by
  rw [decode_of_op3u (u1_10_6 0b011101001#9 imm 1#1 a)]
  simp only [decodeOp3u, u1_7_3, u1_5_1]
  rfl

theorem decode_st16s_fixed (imm : BitVec 1) (a : RegNum) :
    decode (0b011101101#9 ++ imm ++ 1#1 ++ a) = .error .fixedBitSet := by
  rw [decode_of_op3u (u1_10_6 0b011101101#9 imm 1#1 a)]
  simp only [decodeOp3u, u1_7_3, u1_5_1]
  rfl

theorem decode_op3u_unused (op : BitVec 3) (x : BitVec 7) (h : op ∈ [0b010#3, 0b011#3, 0b110#3, 0b111#3]) :
    decode (0b011101#6 ++ op ++ x) = .error .unusedOpcode := by
  have hop : @BitVec.extractLsb' 16 10 6 (0b011101#6 ++ op ++ x) = 0b011101#6 :=
    (extract_append_high _ x 10 3 6 rfl).trans (BitVec.extractLsb'_append_eq_left)
  have hrow : @BitVec.extractLsb' 16 7 3 (0b011101#6 ++ op ++ x) = op :=
    (extract_append_high _ x 7 0 3 rfl).trans (BitVec.extractLsb'_append_eq_right)
  rw [decode_of_op3u hop, decodeOp3u, hrow]
  fin_cases h <;> rfl

theorem decode_trap_fixed (bits : BitVec 2) (imm : BitVec 6) (h : bits ≠ 0#2) :
    decode (0b01111001#8 ++ bits ++ imm) = .error .fixedBitSet := by
  have hop : @BitVec.extractLsb' 16 10 6 (0b01111001#8 ++ bits ++ imm) = 0b011110#6 :=
    i6v_10_6 (0b01111001#8 ++ bits) imm |>.trans (extract_append_high _ bits 4 2 6 rfl)
  have hrow : @BitVec.extractLsb' 16 8 2 (0b01111001#8 ++ bits ++ imm) = 0b01#2 :=
    i6v_8_2 (0b01111001#8 ++ bits) imm |>.trans (extract_append_high _ bits 2 0 2 rfl)
  have hbits : @BitVec.extractLsb' 16 6 2 (0b01111001#8 ++ bits ++ imm) = bits :=
    i6v_6_2 (0b01111001#8 ++ bits) imm |>.trans BitVec.extractLsb'_append_eq_right
  rw [decode_of_op2v hop, decodeOp2v, hrow, hbits]
  exact if_neg h

theorem decode_op2v_unused (op : BitVec 2) (x : BitVec 8) (h : op ∈ [0b10#2, 0b11#2]) :
    decode (0b011110#6 ++ op ++ x) = .error .unusedOpcode := by
  have hop : @BitVec.extractLsb' 16 10 6 (0b011110#6 ++ op ++ x) = 0b011110#6 :=
    (i8v_10_6 (0b011110#6 ++ op) x).trans BitVec.extractLsb'_append_eq_left
  have hrow : @BitVec.extractLsb' 16 8 2 (0b011110#6 ++ op ++ x) = op :=
    (i8v_8_2 (0b011110#6 ++ op) x).trans BitVec.extractLsb'_append_eq_right
  rw [decode_of_op2v hop, decodeOp2v, hrow]
  fin_cases h <;> rfl

theorem decode_op5w_unused (op a : BitVec 5) (h : op ∈ [0b00111#5, 0b01111#5, 0b11011#5, 0b11100#5, 0b11101#5]) :
    decode (0b011111#6 ++ op ++ a) = .error .unusedOpcode := by
  rw [decode_of_op5w (rr_10_6 0b011111#6 op a), decodeOp5w, rr_5_5]
  fin_cases h <;> rfl

theorem decode_restore_fixed (a : RegNum) (h : a ≠ 0#5) : decode (0b01111101101#11 ++ a) = .error .fixedBitSet := by
  have hrow : @BitVec.extractLsb' 16 5 5 (0b01111101101#11 ++ a) = 0b01101#5 := rw_5_5 _ a
  have ha : @BitVec.extractLsb' 16 0 5 (0b01111101101#11 ++ a) = a := rw_0_5 _ a
  rw [decode_rw a rfl, decodeOp5w, hrow, ha]
  exact if_neg h

theorem decode_skps_fixed (x : BitVec 4) : decode (0b011111101111#12 ++ x) = .error .fixedBitSet := by
  rw [decode_of_op5w (i4w_10_6 0b011111101111#12 x)]
  simp only [decodeOp5w, i4w_5_5, i4w_4_1]
  rfl

/-- Settles O3, row by row of R131. -/
theorem reservedWordsRejected : Obligations.ReservedWordsRejected :=
  ⟨decode_sts16s_fixed, decode_ext16s_fixed, decode_st16s_fixed, decode_op3u_unused, decode_trap_fixed,
    decode_op2v_unused, decode_op5w_unused, decode_restore_fixed, decode_skps_fixed, rfl, rfl⟩

/-- Settles O4: each word is `encode` of its instruction. -/
theorem sampleWordsDecode : Obligations.SampleWordsDecode :=
  ⟨decode_encode (.add 19#5 0#5) rfl, decode_encode (.addi 21#5 6#5) rfl, decode_encode (.ld 0#5 27#5) rfl,
    decode_encode (.ldp 11#5 2#2 3#5) rfl, decode_encode (.sts 29#5 17#8) rfl, decode_encode (.sts8s 13#10) rfl,
    decode_encode (.sts16s 7#9) rfl, decode_encode (.ext8s 6#5 3#2) rfl, decode_encode (.ext16s 19#5 1#1) rfl,
    decode_encode (.save 23#8) rfl, decode_encode (.trap 2#6) rfl, decode_encode (.not 12#5) rfl,
    decode_encode .restore rfl, decode_encode (.skps 3#4) rfl, decode_encode (.br 0x3FF#11) rfl,
    decode_encode (.pfx 31#11) rfl⟩

end Sys2Proof

/-! Windows, memory, control-register layouts and operand forms as numbers (10_state.md sections 1, 5 and 6, 20_memory.md,
42_load_store.md section 1): no instruction is run here. -/

namespace Sys2Proof.Machine

/-! ## The window map (R33) -/

theorem phys_global {r : RegNum} (c : BitVec 5) (h : r.toNat < 8) : phys c r = r.toNat := by
  simp [phys, h]

theorem phys_windowed {r : RegNum} (c : BitVec 5) (h : ¬ r.toNat < 8) : phys c r = 16 * c.toNat + r.toNat := by
  simp [phys, h]

/-- The register file is used in steps of 16, and a window sees 32 registers: equal places in it lie in one window or, 16
apart, in neighbouring ones. -/
theorem phys_eq_cases {c d : BitVec 5} {r q : RegNum} (h : phys c r = phys d q) :
    (r = q ∧ r.toNat < 8) ∨ (c = d ∧ r = q) ∨
    (24 ≤ r.toNat ∧ d.toNat = c.toNat + 1 ∧ r.toNat = q.toNat + 16) ∨
    (24 ≤ q.toNat ∧ c.toNat = d.toNat + 1 ∧ q.toNat = r.toNat + 16) := by
  have hr := r.isLt
  have hq := q.isLt
  simp only [← BitVec.toNat_inj]
  unfold phys at h
  split at h <;> split at h <;> omega

theorem phys_in_eq_out {c : BitVec 5} (i : BitVec 3) (h : c ≠ 31#5) :
    phys c (24#5 + i.setWidth 5) = phys (c + 1#5) (8#5 + i.setWidth 5) := by
  have hi := i.isLt
  have hc : c.toNat ≠ 31 := fun hc => h (BitVec.eq_of_toNat_eq hc)
  have hlt := c.isLt
  have hin : (24#5 + i.setWidth 5).toNat = 24 + i.toNat := by
    rw [BitVec.toNat_add, BitVec.toNat_setWidth, BitVec.toNat_ofNat]; omega
  have hout : (8#5 + i.setWidth 5).toNat = 8 + i.toNat := by
    rw [BitVec.toNat_add, BitVec.toNat_setWidth, BitVec.toNat_ofNat]; omega
  have hnext : (c + 1#5).toNat = c.toNat + 1 := by
    rw [BitVec.toNat_add, BitVec.toNat_ofNat]; omega
  rw [phys_windowed _ (by omega), phys_windowed _ (by omega), hin, hout, hnext]
  omega

/-- Settles O22, by `phys_in_eq_out` and `phys_eq_cases`. -/
theorem windowOverlap : Obligations.WindowOverlap := by
  refine ⟨fun c i => phys_in_eq_out i, fun c d r h => ?_, fun c d r q hlo hhi h => ?_, fun c d r q => phys_eq_cases⟩
  · rw [phys_global c h, phys_global d h]
  · rcases phys_eq_cases h with ⟨-, hr⟩ | hlocal | ⟨hr, -⟩ | ⟨-, -, hq⟩
    · omega
    · exact hlocal
    · omega
    · have := q.isLt
      omega

/-! ## Memory -/

theorem getElem_wordBytes (v : Word) {i : Nat} (h : i < (wordBytes v).length) :
    (wordBytes v)[i] = v.extractLsb' (8 * i) 8 := by
  have hi : i < 4 := h
  interval_cases i <;> rfl

theorem getElem_halfBytes (v : Half) {i : Nat} (h : i < (halfBytes v).length) :
    (halfBytes v)[i] = v.extractLsb' (8 * i) 8 := by
  have hi : i < 2 := h
  interval_cases i <;> rfl

/-- Settles O23, by what a byte reads as inside and outside the bytes written. -/
theorem memoryReadsBack : Obligations.MemoryReadsBack := by
  refine fun m a c => ⟨fun v => ⟨Memory.readWord_writeBytes m a v, fun i hi => ?_, fun hc => ?_⟩,
    fun v => ⟨Memory.readHalf_writeBytes m a v, fun i hi => ?_, fun hc => ?_⟩⟩
  · exact (Memory.readByte_writeBytes_inside (wordBytes v) m a i hi).trans (getElem_wordBytes v hi)
  · exact Memory.readByte_writeBytes_outside _ m hc
  · exact (Memory.readByte_writeBytes_inside (halfBytes v) m a i hi).trans (getElem_halfBytes v hi)
  · exact Memory.readByte_writeBytes_outside _ m hc

theorem sparseGet_unlisted {α : Type} {d : α} {l : List (Nat × α)} {a : Nat} (h : ∀ e ∈ l, e.1 ≠ a) :
    sparseGet d l a = d := by
  induction l with
  | nil => rfl
  | cons e t ih =>
    rw [sparseGet, if_neg (h e List.mem_cons_self), ih fun f hf => h f (List.mem_cons_of_mem _ hf)]

theorem sparseGet_head {α : Type} (d v : α) (k : Nat) (t : List (Nat × α)) : sparseGet d ((k, v) :: t) k = v :=
  if_pos rfl

theorem sparseGet_tail {α : Type} (d v : α) {k a : Nat} (t : List (Nat × α)) (h : k ≠ a) :
    sparseGet d ((k, v) :: t) a = sparseGet d t a :=
  if_neg h

theorem sparseWf_cons {α : Type} [DecidableEq α] {d v : α} {k : Nat} {t : List (Nat × α)} :
    sparseWf d ((k, v) :: t) = true ↔ (∀ e ∈ t, k < e.1) ∧ v ≠ d ∧ sparseWf d t = true := by
  simp only [sparseWf_iff, List.pairwise_cons, List.forall_mem_cons]
  tauto

/-- A key below all that a canonical table lists is not listed. -/
theorem sparseGet_below {α : Type} {d : α} {l : List (Nat × α)} {a : Nat} (h : ∀ e ∈ l, a < e.1) :
    sparseGet d l a = d :=
  sparseGet_unlisted fun e he => (h e he).ne'

/-- Canonical tables that read alike are the same list: the lowest key listed is read as no default, so both list it. -/
theorem sparse_ext {α : Type} [DecidableEq α] {d : α} {l m : List (Nat × α)} (hl : sparseWf d l = true)
    (hm : sparseWf d m = true) (h : ∀ a, sparseGet d l a = sparseGet d m a) : l = m := by
  induction l generalizing m with
  | nil =>
    cases m with
    | nil => rfl
    | cons f u =>
      obtain ⟨-, hv, -⟩ := sparseWf_cons.mp hm
      exact absurd ((h f.1).trans (sparseGet_head d f.2 f.1 u)).symm hv
  | cons e t ih =>
    obtain ⟨k, v⟩ := e
    obtain ⟨hkt, hv, ht⟩ := sparseWf_cons.mp hl
    cases m with
    | nil => exact absurd ((sparseGet_head d v k t).symm.trans (h k)) hv
    | cons f u =>
      obtain ⟨k', v'⟩ := f
      obtain ⟨hku, hv', hu⟩ := sparseWf_cons.mp hm
      have hlow : ∀ {a b : Nat} {w : α} {r : List (Nat × α)}, a < b → (∀ e ∈ r, b < e.1) →
          sparseGet d ((b, w) :: r) a = d := fun hab hr =>
        sparseGet_below fun e he => (List.mem_cons.mp he).elim (fun h => h ▸ hab) fun h => hab.trans (hr e h)
      rcases Nat.lt_trichotomy k k' with hk | rfl | hk
      · exact absurd ((sparseGet_head d v k t).symm.trans ((h k).trans (hlow hk hku))) hv
      · have hvv : v = v' := (sparseGet_head d v k t).symm.trans ((h k).trans (sparseGet_head d v' k u))
        have htail : ∀ a, sparseGet d t a = sparseGet d u a := fun a => by
          by_cases ha : k = a
          · rw [← ha, sparseGet_below hkt, sparseGet_below hku]
          · rw [← sparseGet_tail d v t ha, h a, sparseGet_tail d v' u ha]
        rw [hvv, ih ht hu htail]
      · exact absurd ((sparseGet_head d v' k' u).symm.trans ((h k').symm.trans (hlow hk hkt))) hv'

/-- Settles O24, by `sparse_ext`. -/
theorem memoryCanonical : Obligations.MemoryCanonical := fun m n hm hn =>
  sparse_ext ((Memory.wf_iff m).mp hm).1 ((Memory.wf_iff n).mp hn).1

/-! ## The layouts of STATUS and WVALID -/

theorem ofBool_getLsbD {n : Nat} (v : BitVec n) (i : Nat) : BitVec.ofBool (v.getLsbD i) = v.extractLsb' i 1 := by
  apply BitVec.eq_of_getLsbD_eq
  intro j hj
  obtain rfl : j = 0 := by omega
  simp

/-- The 18 bits drawn are bits 17 to 0 of the word they were read from. -/
theorem bits_ofWord (v : Word) : (Status.ofWord v).bits = v.extractLsb' 0 18 := by
  simp only [Status.bits, Status.ofWord, ofBool_getLsbD, BitVec.extractLsb'_append_extractLsb'_eq_extractLsb']

theorem toWord_wvalid_ofWord (v : Word) : (Wvalid.ofWord v).toWord = (v.extractLsb' 0 10).setWidth 32 := by
  simp only [Wvalid.toWord, Wvalid.ofWord, BitVec.extractLsb'_append_extractLsb'_eq_extractLsb']

/-- Zero-extending the low bits of a word masks the others. -/
theorem setWidth_low {n : Nat} (v : Word) (h : n ≤ 32) :
    (v.extractLsb' 0 n).setWidth 32 = v &&& BitVec.ofNat 32 (2 ^ n - 1) := by
  apply BitVec.eq_of_toNat_eq
  have hn : 2 ^ n ≤ 2 ^ 32 := Nat.pow_le_pow_right (by decide) h
  have hp : 0 < 2 ^ n := Nat.two_pow_pos n
  have hv := v.isLt
  rw [BitVec.toNat_and, BitVec.toNat_ofNat, Nat.mod_eq_of_lt (by omega), Nat.and_two_pow_sub_one_eq_mod,
    BitVec.toNat_setWidth, BitVec.extractLsb'_toNat, Nat.shiftRight_zero,
    Nat.mod_eq_of_lt ((Nat.mod_le _ _).trans_lt hv)]

theorem extract_setWidth {n : Nat} (x : BitVec n) {s l : Nat} (h : s + l ≤ n) (hn : n ≤ 32) :
    (x.setWidth 32).extractLsb' s l = x.extractLsb' s l := by
  apply BitVec.eq_of_getLsbD_eq
  intro i hi
  simp only [BitVec.getLsbD_extractLsb', BitVec.getLsbD_setWidth, decide_eq_true (show s + i < 32 by omega),
    Bool.true_and]

/-- STATUS as a number: each field above those to its right. -/
theorem toNat_toWord (st : Status) : st.toWord.toNat =
    2 * (2 * (2 * (2 * (32 * (64 * (2 * (2 * st.dc.toNat + st.ic.toNat) + st.ie.toNat) + st.ipri.toNat) +
      st.cwp.toNat) + st.n.toNat) + st.v.toNat) + st.z.toNat) + st.c.toNat := by
  have hbits := st.bits.isLt
  rw [Status.toWord, BitVec.toNat_setWidth, Nat.mod_eq_of_lt (by omega)]
  simp only [Status.bits, toNat_append_eq_mul_add, BitVec.toNat_ofBool]
  rfl

theorem getLsbD_eq_of_toNat {n i : Nat} {x : BitVec n} {b : Bool} (h : x.toNat / 2 ^ i % 2 = b.toNat) :
    x.getLsbD i = b := by
  rw [Bool.eq_iff_iff, getLsbD_iff_div_mod, h]
  cases b <;> decide

theorem ofWord_toWord (st : Status) : Status.ofWord st.toWord = st := by
  have hword := toNat_toWord st
  obtain ⟨dc, ic, ie, ipri, cwp, n, v, z, c⟩ := st
  dsimp only at hword
  have hipri := ipri.isLt
  have hcwp := cwp.isLt
  have hdc := dc.toNat_lt
  have hic := ic.toNat_lt
  have hie := ie.toNat_lt
  have hn := n.toNat_lt
  have hv := v.toNat_lt
  have hz := z.toNat_lt
  have hc := c.toNat_lt
  rw [Status.ofWord, Status.mk.injEq]
  refine ⟨?_, ?_, ?_, ?_, ?_, ?_, ?_, ?_, ?_⟩
  case refine_4 | refine_5 =>
    apply BitVec.eq_of_toNat_eq
    rw [BitVec.extractLsb'_toNat, Nat.shiftRight_eq_div_pow, hword]
    omega
  all_goals
    refine getLsbD_eq_of_toNat ?_
    rw [hword]
    omega

theorem wvalid_ofWord_toWord (w : Wvalid) : Wvalid.ofWord w.toWord = w := by
  obtain ⟨hi, lo⟩ := w
  rw [Wvalid.ofWord, Wvalid.mk.injEq, Wvalid.toWord, extract_setWidth _ (by decide) (by decide),
    extract_setWidth _ (by decide) (by decide)]
  exact ⟨BitVec.extractLsb'_append_eq_left, BitVec.extractLsb'_append_eq_right⟩

/-- Settles O25: a field of a packed word is the field, and packing the fields of a word puts its drawn bits together. -/
theorem statusLayout : Obligations.StatusLayout :=
  ⟨ofWord_toWord, fun v => by rw [Status.toWord, bits_ofWord]; exact setWidth_low v (by decide),
    wvalid_ofWord_toWord, fun v => by rw [toWord_wvalid_ofWord]; exact setWidth_low v (by decide)⟩


/-! ## Operand forms (R13, R123, R220) -/

theorem toNat_align32 (a : Word) : (align32 a).toNat = a.toNat - a.toNat % 4 := by
  have hmask : align32 a = a >>> 2 <<< 2 := by
    rw [BitVec.shiftLeft_ushiftRight]
    rfl
  have ha := a.isLt
  rw [hmask, BitVec.toNat_shiftLeft, BitVec.toNat_ushiftRight, Nat.shiftRight_eq_div_pow, Nat.shiftLeft_eq]
  omega

/-- Four times a signed number of at most 16 bits is that number of bytes, with no wrap. -/
theorem toInt_signExtend_mul_four {n : Nat} (x : BitVec n) (hn : n ≤ 16) :
    (x.signExtend 32 * 4#32).toInt = 4 * x.toInt := by
  have hle := BitVec.le_two_mul_toInt (x := x)
  have hlt := BitVec.two_mul_toInt_lt (x := x)
  have hp : (2 : Int) ^ n ≤ 2 ^ 16 := pow_le_pow_right₀ (by decide) hn
  have hfour : (4#32).toInt = 4 := rfl
  rw [BitVec.toInt_mul, hfour, BitVec.toInt_signExtend_of_le (by omega), Int.mul_comm]
  exact Int.bmod_eq_of_le (by omega) (by omega)

theorem toInt_prefixOffset (k : BitVec 11) : (prefixOffset k).toInt = 4 * k.toInt :=
  toInt_signExtend_mul_four k (by decide)

theorem toInt_pointerOffset (k : BitVec 11) (imm : BitVec 5) :
    (pointerOffset k imm).toInt = 4 * (imm16 k imm).toInt :=
  toInt_signExtend_mul_four (imm16 k imm) (by decide)

theorem toNat_immOperand (k : BitVec 11) (imm : BitVec 5) : (immOperand k imm).toNat = 32 * k.toNat + imm.toNat := by
  have hk := k.isLt
  have himm := imm.isLt
  rw [immOperand_eq_ofNat, BitVec.toNat_ofNat, Nat.mod_eq_of_lt (by omega)]

theorem toNat_stackOffset (imm : BitVec 8) : (stackOffset imm).toNat = 4 * imm.toNat := by
  have himm := imm.isLt
  rw [stackOffset, BitVec.toNat_mul, BitVec.toNat_setWidth, BitVec.toNat_ofNat]
  omega

theorem toNat_pointerReg (p : BitVec 2) : (pointerReg p).toNat = 16 + p.toNat := by
  have hp := p.isLt
  rw [pointerReg, BitVec.toNat_add, BitVec.toNat_setWidth, BitVec.toNat_ofNat]
  omega

/-- Settles O26, formula by formula. -/
theorem operandFormulas : Obligations.OperandFormulas := by
  refine ⟨toNat_immOperand, fun k => ⟨toInt_prefixOffset k, ?_, ?_⟩, fun k imm => ⟨toInt_pointerOffset k imm, ?_, ?_⟩,
    toNat_stackOffset, toNat_align32, toNat_pointerReg, branchTarget_eq_add_ofInt⟩
  · have hle := k.le_toInt
    rw [toInt_prefixOffset]
    omega
  · have hlt := k.toInt_lt
    rw [toInt_prefixOffset]
    omega
  · have hle := (imm16 k imm).le_toInt
    rw [toInt_pointerOffset]
    omega
  · have hlt := (imm16 k imm).toInt_lt
    rw [toInt_pointerOffset]
    omega

/-! ## The address of a dynamic partial-width store (R227, R229) -/

/-- The offset of LD, ST and the partial-width stores moves by whole words. -/
theorem prefixOffset_mod_four (k : BitVec 11) : (prefixOffset k).toNat % 4 = 0 := by
  rw [prefixOffset, BitVec.toNat_mul, BitVec.toNat_ofNat]
  omega

theorem toNat_byteAddress (w : Word) (n : BitVec 2) : (byteAddress w n).toNat = (w.toNat + n.toNat) % 2 ^ 32 := by
  have hn := n.isLt
  rw [byteAddress, BitVec.toNat_add, BitVec.toNat_setWidth, Nat.mod_eq_of_lt (b := 2 ^ 32) (by omega : n.toNat < _)]

theorem toNat_halfAddress (w : Word) (n : BitVec 1) : (halfAddress w n).toNat = (w.toNat + 2 * n.toNat) % 2 ^ 32 := by
  have hn := n.isLt
  rw [halfAddress, BitVec.toNat_add, BitVec.toNat_mul, BitVec.toNat_setWidth, BitVec.toNat_ofNat]
  omega

/-- An address without its bit 0 (R108). -/
theorem toNat_clear_bit0 (a : Word) : (a &&& 0xFFFFFFFE#32).toNat = a.toNat - a.toNat % 2 := by
  have hmask : a &&& 0xFFFFFFFE#32 = a >>> 1 <<< 1 := by
    rw [BitVec.shiftLeft_ushiftRight]
    rfl
  have ha := a.isLt
  rw [hmask, BitVec.toNat_shiftLeft, BitVec.toNat_ushiftRight, Nat.shiftRight_eq_div_pow, Nat.shiftLeft_eq]
  omega

theorem byteAddress_align32 (base : Word) (k : BitVec 11) :
    byteAddress (align32 (base + prefixOffset k)) (byteLane base) = base + prefixOffset k := by
  apply BitVec.eq_of_toNat_eq
  have hk := prefixOffset_mod_four k
  rw [toNat_byteAddress, toNat_align32, toNat_byteLane, BitVec.toNat_add]
  omega

theorem halfAddress_align32 (base : Word) (k : BitVec 11) :
    halfAddress (align32 (base + prefixOffset k)) (halfLane base) = (base &&& 0xFFFFFFFE#32) + prefixOffset k := by
  apply BitVec.eq_of_toNat_eq
  have hk := prefixOffset_mod_four k
  rw [toNat_halfAddress, toNat_align32, toNat_halfLane, BitVec.toNat_add, BitVec.toNat_add, toNat_clear_bit0]
  omega

/-- Byte lane `n` of a word read from memory is the byte `n` above it. -/
theorem byteOf_readWord (m : Memory) (a : Nat) (n : BitVec 2) : byteOf (m.readWord a) n = m.readByte (a + n.toNat) := by
  have hn : ∀ n : BitVec 2, n = 0#2 ∨ n = 1#2 ∨ n = 2#2 ∨ n = 3#2 := by decide
  have h0 := (m.readByte a).isLt
  have h1 := (m.readByte (a + 1)).isLt
  have h2 := (m.readByte (a + 2)).isLt
  have h3 := (m.readByte (a + 3)).isLt
  apply BitVec.eq_of_toNat_eq
  rw [byteOf, BitVec.extractLsb'_toNat, Nat.shiftRight_eq_div_pow, Memory.readWord]
  simp only [toNat_append_eq_mul_add]
  rcases hn n with rfl | rfl | rfl | rfl
  all_goals
    simp only [BitVec.toNat_ofNat, Nat.reduceMod, Nat.reducePow, Nat.reduceMul, Nat.add_zero]
    omega

theorem byteOf_readWord_align32 (m : Memory) (base : Word) :
    byteOf (m.readWord (align32 base).toNat) (byteLane base) = m.readByte base.toNat := by
  rw [byteOf_readWord, toNat_align32, toNat_byteLane]
  congr 1
  omega

/-- Settles O27: the offset is a multiple of 4, so the aligned word and the lane part and join again. -/
theorem dynamicStoreAddress : Obligations.DynamicStoreAddress := fun base k =>
  ⟨byteAddress_align32 base k, halfAddress_align32 base k, fun m => byteOf_readWord_align32 m base⟩

end Sys2Proof.Machine

/-! The two caches (20_memory.md sections 6 and 7): index and tag of a line as quotient and remainder, and what a load and a
fetch do past the cache, on a hit, on a miss and on a line never initialised. -/

namespace Sys2Proof.Machine

/-! ## Index and tag (R98, R105) -/

/-- An address that is a multiple of the line size `n`, with a cache size that is one too: the index is a line of the cache,
and tag and index give the address back. -/
theorem line_of_address {n size x : Nat} (hs : 0 < size) (hsize : n ∣ size) (hx : n ∣ x) :
    x % size / n < size / n ∧ x = x / size * size + n * (x % size / n) := by
  refine ⟨Nat.div_lt_div_of_lt_of_dvd hsize (Nat.mod_lt x hs), ?_⟩
  rw [Nat.mul_div_cancel' ((Nat.dvd_mod_iff hsize).mpr hx), Nat.div_add_mod']

theorem dcacheSize_of_valid {c : Config} (h : c.valid = true) (hd : c.hasDCache = true) :
    0 < c.dcacheSize ∧ 4 ∣ c.dcacheSize := by
  simp only [Config.valid, Bool.and_eq_true, hd, Bool.not_true, Bool.false_or, decide_eq_true_eq] at h
  obtain ⟨⟨⟨⟨-, hpos, hmod⟩, -⟩, -⟩, -⟩ := h
  exact ⟨hpos, Nat.dvd_of_mod_eq_zero hmod⟩

theorem icacheSize_of_valid {c : Config} (h : c.valid = true) (hi : c.hasICache = true) :
    0 < c.icacheSize ∧ 2 ∣ c.icacheSize := by
  simp only [Config.valid, Bool.and_eq_true, hi, Bool.not_true, Bool.false_or, decide_eq_true_eq] at h
  obtain ⟨⟨⟨-, hpos, hmod⟩, -⟩, -⟩ := h
  exact ⟨hpos, Nat.dvd_of_mod_eq_zero hmod⟩

theorem dline_of_word {c : Config} (a : Word) (h : c.valid = true) (hd : c.hasDCache = true) :
    dindex c a < c.dcacheSize / 4 ∧ (align32 a).toNat = dtag c a * c.dcacheSize + 4 * dindex c a :=
  have ⟨hs, hsize⟩ := dcacheSize_of_valid h hd
  line_of_address hs hsize (by rw [toNat_align32]; omega)

theorem iline_of_half {c : Config} (a : Word) (h : c.valid = true) (hi : c.hasICache = true) :
    iindex c a < c.icacheSize / 2 ∧ a.toNat - a.toNat % 2 = itag c a * c.icacheSize + 2 * iindex c a := by
  obtain ⟨hs, hsize⟩ := icacheSize_of_valid h hi
  rw [← toNat_clear_bit0]
  exact line_of_address hs hsize (by rw [toNat_clear_bit0]; omega)

theorem even_iff_bit0 (a : Word) : a.getLsbD 0 = false ↔ a.toNat % 2 = 0 := by
  rw [← Bool.not_eq_true', not_getLsbD_iff_div_mod, Nat.pow_zero, Nat.div_one]

/-! ## One line written -/

theorem setsDataLine_of {s t : State} {w : Word} {l : DLine} (hcfg : t.cfg = s.cfg)
    (hd : t.dcache = sparseSet .unknown s.dcache (dindex s.cfg w) l) : SetsDataLine s t w l := by
  unfold SetsDataLine State.dline
  rw [hcfg, hd]
  exact ⟨sparseGet_set_self _ _ _ _, fun a ha => sparseGet_set_other _ _ _ ha⟩

theorem setsFetchLine_of {s t : State} {w : Word} {l : ILine} (hcfg : t.cfg = s.cfg)
    (hi : t.icache = sparseSet .unknown s.icache (iindex s.cfg w) l) : SetsFetchLine s t w l := by
  unfold SetsFetchLine State.iline
  rw [hcfg, hi]
  exact ⟨sparseGet_set_self _ _ _ _, fun a ha => sparseGet_set_other _ _ _ ha⟩

/-! ## Loads -/

theorem dataLoad_unknown {s : State} {w : Word} {b : Bool} (h : ¬ Uncached s b) (hl : s.dline w = .unknown) :
    s.dataLoad w b = .error .dcacheUninitialised := by
  simp [State.dataLoad, mt uncached_iff.mp h, hl]

theorem dataFill_unmapped {s : State} {w : Word} (h : Unmapped s w 4) : s.dataFill w = .error .unmapped := by
  simp only [State.dataFill, busReadWord_unmapped h, error_bind]

/-- Settles O28: `dline_of_word` for index and tag, one lemma of `dataLoad` for each case. -/
theorem dataLoadCases : Obligations.DataLoadCases := by
  refine ⟨fun c a b hc hd => ?_, fun s w bypass => ⟨fun hu => ?_, fun hd hdc hb => ?_⟩⟩
  · obtain ⟨hlt, ha⟩ := dline_of_word a hc hd
    obtain ⟨-, hb⟩ := dline_of_word b hc hd
    exact ⟨hlt, ha, fun hindex htag => BitVec.eq_of_toNat_eq (by rw [ha, hb, hindex, htag])⟩
  · rw [dataLoad_uncached w hu]
    exact ⟨fun v f => busReadWord_of, busReadWord_unmapped⟩
  · have hu : ¬ Uncached s bypass := by simp [Uncached, hd, hdc, hb]
    refine ⟨fun d => dataLoad_hit hu, dataLoad_unknown hu, fun hl hm => ?_, fun v f hl hv => ?_⟩
    · rw [dataLoad_miss hu hl, dataFill_unmapped hm]
    · exact ⟨_, (dataLoad_miss hu hl).trans (dataFill_of hv), rfl, setsDataLine_of rfl rfl⟩

/-! ## Fetches -/

/-- A fetch goes past the instruction cache: there is none or it is disabled (R107). -/
def Unfetched (s : State) : Prop := s.cfg.hasICache = false ∨ s.status.ic = false

theorem unfetched_iff {s : State} : (!s.cfg.hasICache || !s.status.ic) = true ↔ Unfetched s := by
  simp [Unfetched]

theorem fetch_uncached {s : State} (a : Word) (h : Unfetched s) : s.fetch a = s.busReadHalf a := by
  simp only [State.fetch, unfetched_iff.mpr h, if_true]

theorem fetch_hit {s : State} {a : Word} {v : Half} (h : ¬ Unfetched s) (hl : s.iline a = .valid (itag s.cfg a) v) :
    s.fetch a = .ok (v, s) := by
  simp [State.fetch, mt unfetched_iff.mp h, hl]

theorem fetch_unknown {s : State} {a : Word} (h : ¬ Unfetched s) (hl : s.iline a = .unknown) :
    s.fetch a = .error .icacheUninitialised := by
  simp [State.fetch, mt unfetched_iff.mp h, hl]

theorem fetch_miss {s : State} {a : Word} (h : ¬ Unfetched s)
    (hl : s.iline a = .invalid ∨ ∃ tag d, s.iline a = .valid tag d ∧ tag ≠ itag s.cfg a) :
    s.fetch a = s.fetchFill a := by
  rcases hl with hl | ⟨tag, d, hl, ht⟩
  · simp [State.fetch, mt unfetched_iff.mp h, hl]
  · simp [State.fetch, mt unfetched_iff.mp h, hl, ht]

theorem fetchFill_of {s : State} {a : Word} {v : Half} {f : Nat} (h : BusHalf s a v f) :
    s.fetchFill a = .ok (v, State.setIline { s with freeCtr := f } a (.valid (itag s.cfg a) v)) := by
  simp only [State.fetchFill, busReadHalf_of h, ok_bind]

theorem fetchFill_unmapped {s : State} {a : Word} (h : Unmapped s a 2) : s.fetchFill a = .error .unmapped := by
  simp only [State.fetchFill, busReadHalf_unmapped h, error_bind]

/-- Settles O29: `iline_of_half` for index and tag, one lemma of `fetch` for each case. -/
theorem fetchCases : Obligations.FetchCases := by
  refine ⟨fun c a b hc hi => ?_, fun s a => ⟨fun hu => ?_, fun hi hic => ?_⟩⟩
  · obtain ⟨hlt, ha⟩ := iline_of_half a hc hi
    obtain ⟨-, hb⟩ := iline_of_half b hc hi
    refine ⟨hlt, ha, fun hea heb hindex htag => BitVec.eq_of_toNat_eq ?_⟩
    rw [(even_iff_bit0 a).mp hea, Nat.sub_zero] at ha
    rw [(even_iff_bit0 b).mp heb, Nat.sub_zero] at hb
    rw [ha, hb, hindex, htag]
  · rw [fetch_uncached a hu]
    exact ⟨fun v f => busReadHalf_of, busReadHalf_unmapped⟩
  · have hu : ¬ Unfetched s := by simp [Unfetched, hi, hic]
    refine ⟨fun d => fetch_hit hu, fetch_unknown hu, fun hl hm => ?_, fun v f hl hv => ?_⟩
    · rw [fetch_miss hu hl, fetchFill_unmapped hm]
    · exact ⟨_, (fetch_miss hu hl).trans (fetchFill_of hv), rfl, setsFetchLine_of rfl rfl⟩

end Sys2Proof.Machine

/-! What an instruction that completes can do, said once (`effect_of_exec`): the inversion of `exec` that the frame
statements and the invariant are read from. An ordinary instruction changes the state by `Body`, within the bounds its kind
sets, and goes on by `GoesOn`; SAVE, RESTORE, TRAP, TRET and WRCTL have a form of their own (45_window_trap_control.md). -/

namespace Sys2Proof.Machine

/-! ## Exceptions: the handler's state (R335) -/

theorem enter_of {s : State} {n : BitVec 6} {ret v : Word} {dec : Bool} {f : Nat}
    (hr : phys (if dec then s.status.cwp - 1#5 else s.status.cwp) 15#5 < s.regs.length)
    (hv : BusWord s (s.cfg.vecBase + n.setWidth 32 * 4#32) v f) :
    s.enter n ret dec =
      .ok (s.inHandler s.status (if dec then s.status.cwp - 1#5 else s.status.cwp) n ret v f) := by
  have hwrite := writeReg_of_lt (s := (s.setIstatus s.status).setStatus (s.status.entered n dec)) (r := 15#5)
    (returnAddress ret) hr
  simp only [State.enter, hwrite, ok_bind]
  rw [vectorFetch_of (v := v) (f := f)]
  · rfl
  · exact hv

theorem enter_inHandler {s t : State} {n : BitVec 6} {ret : Word} {dec : Bool} (h : s.enter n ret dec = .ok t) :
    ∃ v f, t = s.inHandler s.status (if dec then s.status.cwp - 1#5 else s.status.cwp) n ret v f := by
  obtain ⟨u, v, rfl, -, w, hw, rfl⟩ := enter_ok h
  rcases busReadWord_ok hw with ⟨rfl, -⟩ | ⟨rfl, -⟩
  · exact ⟨v, s.freeCtr, rfl⟩
  · exact ⟨v, s.freeCtr + 1, rfl⟩

/-! ## SAVE, RESTORE and TRAP (R290 to R292) -/

/-- SAVE leaves the lowest valid window with exception 1 unmasked. -/
def Underflows (s : State) : Prop := s.status.cwp = s.wvalid.loLimit ∧ s.status.ie = true ∧ 1 < s.status.ipri.toNat

/-- RESTORE leaves the highest valid window with exception 2 unmasked. -/
def Overflows (s : State) : Prop := s.status.cwp = s.wvalid.hiLimit ∧ s.status.ie = true ∧ 2 < s.status.ipri.toNat

theorem underflows_iff {s : State} : (s.status.cwp == s.wvalid.loLimit && s.unmasked 1#6) = true ↔ Underflows s := by
  simp [Underflows, State.unmasked]

theorem overflows_iff {s : State} : (s.status.cwp == s.wvalid.hiLimit && s.unmasked 2#6) = true ↔ Overflows s := by
  simp [Overflows, State.unmasked]

/-- `s` in the window below, its %sp there `sp`. -/
def State.opened (s : State) (sp : Word) : State :=
  { s with
    regs := s.regs.set (phys (s.status.cwp - 1#5) 14#5) sp
    status := { s.status with cwp := s.status.cwp - 1#5 } }

/-- `s` in the window above. -/
def State.reopened (s : State) : State := { s with status := { s.status with cwp := s.status.cwp + 1#5 } }

/-- %sp of a window lies below its %fp. -/
theorem phys_sp_lt_fp (c : BitVec 5) : phys c 14#5 < phys c 30#5 := by
  rw [phys_windowed c (by decide), phys_windowed c (by decide)]
  exact Nat.add_lt_add_left (by decide) _

theorem exec_save_of {s : State} {fp : Word} (imm : BitVec 8) (hp : s.iobyp = false)
    (hfp : s.regs[phys (s.status.cwp - 1#5) 30#5]? = some fp) :
    exec (.save imm) s = finish
      (if (s.status.cwp == s.wvalid.loLimit && s.unmasked 1#6) = true then
        (s.opened (fp - stackOffset imm)).enter 1#6 s.nextPc false
      else .ok (s.opened (fp - stackOffset imm)).retire) := by
  have hread : (s.setStatus (s.status.withCwp (s.status.cwp - 1#5))).readReg 30#5 = .ok fp := readReg_iff.mpr hfp
  have hsp : phys (s.status.cwp - 1#5) 14#5 < s.regs.length := (phys_sp_lt_fp _).trans (readReg_lt hread)
  have hwrite := writeReg_of_lt (s := s.setStatus (s.status.withCwp (s.status.cwp - 1#5))) (r := 14#5)
    (fp - stackOffset imm) hsp
  simp only [exec, execSave, notAfterPfxio_of _ hp, hread, hwrite, ok_bind]
  rfl

theorem exec_restore_of {s : State} (hp : s.iobyp = false) :
    exec .restore s = finish
      (if (s.status.cwp == s.wvalid.hiLimit && s.unmasked 2#6) = true then s.reopened.enter 2#6 s.nextPc true
      else .ok s.reopened.retire) :=
  notAfterPfxio_of _ hp

theorem exec_trap_of {s : State} {n : BitVec 6} (hp : s.iobyp = false) (hd : s.delay = none) (hn : n ≠ 0#6) :
    exec (.trap n) s = finish (s.enter n (s.pc + 2#32) true) := by
  simp only [exec, execTrap, State.transfer, notInSlot_of _ hd, notAfterPfxio_of _ hp, hn, if_false]

/-- RESTORE enters exception 2 one window below the one it went up to. -/
theorem inHandler_reopened (s : State) (n : BitVec 6) (ret v : Word) (f : Nat) :
    s.reopened.inHandler s.reopened.status (s.reopened.status.cwp - 1#5) n ret v f =
      s.inHandler s.reopened.status s.status.cwp n ret v f := by
  have hcwp : s.reopened.status.cwp - 1#5 = s.status.cwp := BitVec.add_sub_cancel _ _
  rw [hcwp]
  rfl

/-! ## What an ordinary instruction may change -/

/-- Every instruction but SAVE, RESTORE, TRAP, TRET and WRCTL. -/
def ordinary : Instr → Bool
  | .save _ => false
  | .restore => false
  | .trap _ => false
  | .tret _ => false
  | .wrctl _ => false
  | _ => true

/-- The register file `r` differs from that of `s` at most in the destinations of `i`. -/
structure RegsBy (i : Instr) (s : State) (r : List Word) : Prop where
  length : r.length = s.regs.length
  others : ∀ p, p ∉ destinations i s.status.cwp → r[p]? = s.regs[p]?

theorem RegsBy.same {i : Instr} {s : State} : RegsBy i s s.regs := ⟨rfl, fun _ _ => rfl⟩

theorem RegsBy.set {i : Instr} {s : State} {r : List Word} {p : Nat} (v : Word) (h : RegsBy i s r)
    (hp : p ∈ destinations i s.status.cwp) : RegsBy i s (r.set p v) where
  length := by rw [List.length_set, h.length]
  others q hq := by
    have hpq : p ≠ q := fun heq => hq (heq ▸ hp)
    rw [List.getElem?_set_ne hpq, h.others q hq]

/-- STATUS after `i` by the flag table (R53): its other fields are kept. -/
structure FlagsBy (i : Instr) (old new : Status) : Prop where
  dc : new.dc = old.dc
  ic : new.ic = old.ic
  ie : new.ie = old.ie
  ipri : new.ipri = old.ipri
  cwp : new.cwp = old.cwp
  logic : writesLogicFlags i = true → new.v = old.v ∧ new.c = old.c
  carry : writesCarryOnly i = true → new.n = old.n ∧ new.v = old.v ∧ new.z = old.z
  kept : writesAllFlags i = false → writesLogicFlags i = false → writesCarryOnly i = false →
    new.n = old.n ∧ new.v = old.v ∧ new.z = old.z ∧ new.c = old.c

theorem FlagsBy.same {i : Instr} {st : Status} : FlagsBy i st st :=
  ⟨rfl, rfl, rfl, rfl, rfl, fun _ => ⟨rfl, rfl⟩, fun _ => ⟨rfl, rfl, rfl⟩, fun _ _ _ => ⟨rfl, rfl, rfl, rfl⟩⟩

/-- The first row of R53. -/
theorem FlagsBy.all {i : Instr} {st : Status} (n v z c : Bool) (ha : writesAllFlags i = true)
    (hl : writesLogicFlags i = false) (hc : writesCarryOnly i = false) : FlagsBy i st (st.withFlags n v z c) :=
  ⟨rfl, rfl, rfl, rfl, rfl, fun h => by simp [hl] at h, fun h => by simp [hc] at h, fun h => by simp [ha] at h⟩

/-- The second row of R53. -/
theorem FlagsBy.ofLogic {i : Instr} {st : Status} (r : Word) (hl : writesLogicFlags i = true)
    (hc : writesCarryOnly i = false) : FlagsBy i st (st.logicFlags r) :=
  ⟨rfl, rfl, rfl, rfl, rfl, fun _ => ⟨rfl, rfl⟩, fun h => by simp [hc] at h, fun _ h => by simp [hl] at h⟩

/-- The third row of R53. -/
theorem FlagsBy.ofCarry {i : Instr} {st : Status} (c : Bool) (hl : writesLogicFlags i = false)
    (hc : writesCarryOnly i = true) : FlagsBy i st (st.withCarry c) :=
  ⟨rfl, rfl, rfl, rfl, rfl, fun h => by simp [hl] at h, fun _ => ⟨rfl, rfl, rfl⟩, fun _ _ h => by simp [hc] at h⟩

/-- Memory after `i`: a store may write where the map holds the bytes. -/
inductive MemBy (i : Instr) (s : State) : Memory → Prop
  | same : MemBy i s s.mem
  | stored {a : Nat} {l : List Byte} {k : RegionKind} (hi : isStore i = true) (hk : s.regionOf a l.length = .ok k) :
      MemBy i s (s.mem.writeBytes a l)

/-- The data cache after `i`: a load or a store may set one line of a cache that exists. -/
inductive DcacheBy (i : Instr) (s : State) : List (Nat × DLine) → Prop
  | same : DcacheBy i s s.dcache
  | line {w : Word} {l : DLine} (hi : isLoad i = true ∨ isStore i = true) (hc : s.cfg.hasDCache = true) :
      DcacheBy i s (sparseSet .unknown s.dcache (dindex s.cfg w) l)

/-- The instruction cache after `i`: a skip may set one line of a cache that exists. -/
inductive IcacheBy (i : Instr) (s : State) : List (Nat × ILine) → Prop
  | same : IcacheBy i s s.icache
  | line {a : Word} {l : ILine} (hi : isSkip i = true) (hc : s.cfg.hasICache = true) :
      IcacheBy i s (sparseSet .unknown s.icache (iindex s.cfg a) l)

/-- What an ordinary instruction does before execution goes on. -/
inductive Body (i : Instr) (s : State) : State → Prop
  | mk {r : List Word} {st : Status} {m : Memory} {d : List (Nat × DLine)} {ic : List (Nat × ILine)} {f : Nat}
      (hr : RegsBy i s r) (hst : FlagsBy i s.status st) (hm : MemBy i s m) (hd : DcacheBy i s d) (hic : IcacheBy i s ic) :
      Body i s { s with regs := r, status := st, mem := m, dcache := d, icache := ic, freeCtr := f }

/-- Where an ordinary instruction goes on (R43, R250, R253, R270). -/
inductive GoesOn (i : Instr) (u : State) : State → Prop
  | sequence : GoesOn i u u.retire
  | skip {p : Word} (hp : p = u.pc + 2#32 ∨ p = u.pc + 4#32 ∨ p = u.pc + 6#32) : GoesOn i u (u.goto p)
  | branch {target : Word} (ht : u.pc.getLsbD 0 = false → target.getLsbD 0 = false) : GoesOn i u (u.branchTo target)
  | prefixed {imm : BitVec 11} {io : Bool} (hi : isPrefix i = true) (hd : u.delay = none) :
      GoesOn i u (u.loadPrefix imm io)

/-- What an instruction that completes does. -/
inductive Effect (s : State) : Instr → State → Prop
  | ordinary {i : Instr} {u t : State} (hi : ordinary i = true) (hu : Body i s u) (ht : GoesOn i u t) : Effect s i t
  | save {imm : BitVec 8} {sp : Word} (h : ¬ Underflows s) : Effect s (.save imm) (s.opened sp).retire
  | underflow {imm : BitVec 8} {sp v : Word} {f : Nat} (h : Underflows s) :
      Effect s (.save imm) ((s.opened sp).inHandler (s.opened sp).status (s.status.cwp - 1#5) 1#6 s.nextPc v f)
  | restore (h : ¬ Overflows s) : Effect s .restore s.reopened.retire
  | overflow {v : Word} {f : Nat} (h : Overflows s) :
      Effect s .restore (s.inHandler s.reopened.status s.status.cwp 2#6 s.nextPc v f)
  | trap {n : BitVec 6} {v : Word} {f : Nat} :
      Effect s (.trap n) (s.inHandler s.status (s.status.cwp - 1#5) n (s.pc + 2#32) v f)
  | tret {a : RegNum} {x : Word} : Effect s (.tret a) (s.leave (codeAddress x))
  | wrctl {a : RegNum} {v : Word} {u : State} (h : s.writeCtl v = .ok u) : Effect s (.wrctl a) u.retire

/-! ## The bodies of the ordinary instructions -/

theorem Body.same {i : Instr} {s : State} : Body i s s := .mk .same .same .same .same .same

theorem Body.setRegs {i : Instr} {s : State} {a : RegNum} (v : Word)
    (ha : phys s.status.cwp a ∈ destinations i s.status.cwp) :
    Body i s (s.setRegs (s.regs.set (phys s.status.cwp a) v)) :=
  .mk (RegsBy.same.set v ha) .same .same .same .same

theorem Body.setFlags {i : Instr} {s : State} {st : Status} (hst : FlagsBy i s.status st) : Body i s (s.setStatus st) :=
  .mk .same hst .same .same .same

theorem Body.setRegs_setFlags {i : Instr} {s : State} {a : RegNum} {st : Status} (v : Word)
    (ha : phys s.status.cwp a ∈ destinations i s.status.cwp) (hst : FlagsBy i s.status st) :
    Body i s ((s.setRegs (s.regs.set (phys s.status.cwp a) v)).setStatus st) :=
  .mk (RegsBy.same.set v ha) hst .same .same .same

/-- A register read changes nothing. -/
theorem Body.of_readReg {i : Instr} {s u : State} {r : RegNum} {g : Word → Except Fault State}
    (hg : ∀ x, g x = .ok u → Body i s u) (h : (s.readReg r >>= g) = .ok u) : Body i s u := by
  obtain ⟨x, -, h⟩ := bind_ok.mp h
  exact hg x h

theorem Body.of_writeReg {i : Instr} {s u : State} {a : RegNum} {v : Word}
    (ha : phys s.status.cwp a ∈ destinations i s.status.cwp) (h : s.writeReg a v = .ok u) : Body i s u := by
  obtain ⟨-, rfl⟩ := writeReg_ok h
  exact .setRegs v ha

theorem Body.of_update {i : Instr} {s u : State} {a : RegNum} {g : Word → Word}
    (ha : phys s.status.cwp a ∈ destinations i s.status.cwp) (h : s.update a g = .ok u) : Body i s u := by
  obtain ⟨x, -, rfl⟩ := update_ok h
  exact .setRegs _ ha

theorem Body.of_combine {i : Instr} {s u : State} {a b : RegNum} {g : Word → Word → Word}
    (ha : phys s.status.cwp a ∈ destinations i s.status.cwp) (h : s.combine a b g = .ok u) : Body i s u := by
  obtain ⟨x, y, -, -, rfl⟩ := combine_ok h
  exact .setRegs _ ha

theorem Body.of_addTo {i : Instr} {s u : State} {a : RegNum} {y : Word}
    (ha : phys s.status.cwp a ∈ destinations i s.status.cwp) (hf : ∀ n v z c, FlagsBy i s.status (s.status.withFlags n v z c))
    (h : s.addTo a y = .ok u) : Body i s u := by
  obtain ⟨x, -, rfl⟩ := addTo_ok h
  exact .setRegs_setFlags _ ha (hf _ _ _ _)

theorem Body.of_subFrom {i : Instr} {s u : State} {a : RegNum} {y : Word}
    (ha : phys s.status.cwp a ∈ destinations i s.status.cwp) (hf : ∀ n v z c, FlagsBy i s.status (s.status.withFlags n v z c))
    (h : s.subFrom a y = .ok u) : Body i s u := by
  obtain ⟨x, -, rfl⟩ := subFrom_ok h
  exact .setRegs_setFlags _ ha (hf _ _ _ _)

theorem Body.of_compareWith {i : Instr} {s u : State} {a : RegNum} {y : Word}
    (hf : ∀ n v z c, FlagsBy i s.status (s.status.withFlags n v z c)) (h : s.compareWith a y = .ok u) : Body i s u := by
  obtain ⟨x, -, rfl⟩ := compareWith_ok h
  exact .setFlags (hf _ _ _ _)

theorem Body.of_logicInto {i : Instr} {s u : State} {a b : RegNum} {g : Word → Word → Word}
    (ha : phys s.status.cwp a ∈ destinations i s.status.cwp) (hl : writesLogicFlags i = true)
    (hc : writesCarryOnly i = false) (h : s.logicInto a b g = .ok u) : Body i s u := by
  obtain ⟨x, y, -, -, rfl⟩ := logicInto_ok h
  exact .setRegs_setFlags _ ha (.ofLogic _ hl hc)

theorem Body.of_rotateInto {i : Instr} {s u : State} {a : RegNum} {r : Word} {c : Bool}
    (ha : phys s.status.cwp a ∈ destinations i s.status.cwp) (hl : writesLogicFlags i = false)
    (hc : writesCarryOnly i = true) (h : s.rotateInto a r c = .ok u) : Body i s u := by
  obtain rfl := rotateInto_ok h
  exact .setRegs_setFlags _ ha (.ofCarry c hl hc)

/-- RDCTL writes x[A]; a write-only control register costs a free value. -/
theorem Body.of_readCtl {i : Instr} {s t u : State} {a : RegNum} {v : Word}
    (ha : phys s.status.cwp a ∈ destinations i s.status.cwp) (hc : s.readCtl = .ok (v, t))
    (h : t.writeReg a v = .ok u) : Body i s u := by
  obtain ⟨-, rfl⟩ := writeReg_ok h
  rcases readCtl_ok hc with rfl | rfl
  · exact .setRegs v ha
  · exact .mk (RegsBy.same.set v ha) .same .same .same .same

theorem dcacheBy_of_dataLoad {i : Instr} {s t : State} {w v : Word} {b : Bool} (hi : isLoad i = true)
    (h : s.dataLoad w b = .ok (v, t)) : ∃ d f, DcacheBy i s d ∧ t = { s with dcache := d, freeCtr := f } := by
  rcases dataLoad_ok h with ⟨h, -⟩ | ⟨hc, -, -, ⟨rfl, -⟩ | ⟨u, hu, rfl⟩⟩
  · rcases busReadWord_ok h with ⟨rfl, -⟩ | ⟨rfl, -⟩
    · exact ⟨_, _, .same, rfl⟩
    · exact ⟨_, _, .same, rfl⟩
  · exact ⟨_, _, .same, rfl⟩
  · rcases busReadWord_ok hu with ⟨rfl, -⟩ | ⟨rfl, -⟩
    · exact ⟨_, _, .line (.inl hi) hc, rfl⟩
    · exact ⟨_, _, .line (.inl hi) hc, rfl⟩

theorem Body.of_loadInto {i : Instr} {s u : State} {a : RegNum} {w : Word} {b : Bool}
    (ha : phys s.status.cwp a ∈ destinations i s.status.cwp) (hi : isLoad i = true) (h : s.loadInto a w b = .ok u) :
    Body i s u := by
  obtain ⟨v, t, ht, -, rfl⟩ := loadInto_ok h
  obtain ⟨d, f, hd, rfl⟩ := dcacheBy_of_dataLoad hi ht
  exact .mk (RegsBy.same.set v ha) .same .same hd .same

theorem memBy_of_busWrite {i : Instr} {s t : State} {a : Word} {l : List Byte} (hi : isStore i = true)
    (h : s.busWrite a l = .ok t) : ∃ m, MemBy i s m ∧ t = { s with mem := m } := by
  rcases busWrite_ok h with ⟨rfl, hk⟩ | ⟨rfl, -⟩
  · exact ⟨_, .stored hi hk, rfl⟩
  · exact ⟨_, .same, rfl⟩

theorem Body.of_wordStore {i : Instr} {s u : State} {w v : Word} (hi : isStore i = true) (h : s.wordStore w v = .ok u) :
    Body i s u := by
  obtain ⟨t, ht, h⟩ := wordStore_ok h
  obtain ⟨m, hm, rfl⟩ := memBy_of_busWrite hi ht
  rcases h with ⟨rfl, hc⟩ | ⟨rfl, -⟩
  · exact .mk .same .same hm (.line (.inr hi) hc) .same
  · exact .mk .same .same hm .same .same

/-- A partial-width store leaves the data cache or makes one line invalid. -/
theorem Body.of_dropDline {i : Instr} {s t : State} {a w : Word} {l : List Byte} (hi : isStore i = true)
    (h : s.busWrite a l = .ok t) : Body i s (t.dropDline w) := by
  obtain ⟨m, hm, rfl⟩ := memBy_of_busWrite hi h
  rcases dropDline_cases { s with mem := m } w with hd | ⟨hd, hc⟩
  · rw [hd]
    exact .mk .same .same hm .same .same
  · rw [hd]
    exact .mk .same .same hm (.line (.inr hi) hc) .same

theorem Body.of_byteStore {i : Instr} {s u : State} {w v : Word} {n : BitVec 2} (hi : isStore i = true)
    (h : s.byteStore w n v = .ok u) : Body i s u := by
  obtain ⟨t, ht, rfl⟩ := byteStore_ok h
  exact .of_dropDline hi ht

theorem Body.of_halfStore {i : Instr} {s u : State} {w v : Word} {n : BitVec 1} (hi : isStore i = true)
    (h : s.halfStore w n v = .ok u) : Body i s u := by
  obtain ⟨t, ht, rfl⟩ := halfStore_ok h
  exact .of_dropDline hi ht

/-- A fetch leaves the instruction cache or fills the line of its address. -/
theorem fetch_icache {s t : State} {a : Word} {v : Half} (h : s.fetch a = .ok (v, t)) :
    ∃ d f, t = { s with icache := d, freeCtr := f } ∧
      (d = s.icache ∨ (s.cfg.hasICache = true ∧ ∃ l, d = sparseSet .unknown s.icache (iindex s.cfg a) l)) := by
  rcases fetch_ok h with ⟨h, -⟩ | ⟨hc, -, ⟨rfl, -⟩ | ⟨u, hu, rfl⟩⟩
  · rcases busReadHalf_ok h with ⟨rfl, -⟩ | ⟨rfl, -⟩
    · exact ⟨_, _, rfl, .inl rfl⟩
    · exact ⟨_, _, rfl, .inl rfl⟩
  · exact ⟨_, _, rfl, .inl rfl⟩
  · rcases busReadHalf_ok hu with ⟨rfl, -⟩ | ⟨rfl, -⟩
    · exact ⟨_, _, rfl, .inr ⟨hc, _, rfl⟩⟩
    · exact ⟨_, _, rfl, .inr ⟨hc, _, rfl⟩⟩

/-! ## Each kind of instruction -/

section
variable {s t : State} {i : Instr}

theorem effect_goOn {body : Except Fault State} (hi : ordinary i = true) (hb : ∀ u, body = .ok u → Body i s u)
    (h : goOn body = .next t) : Effect s i t := by
  obtain ⟨u, hu, rfl⟩ := goOn_next h
  exact .ordinary hi (hb u hu) .sequence

theorem effect_plain {body : Except Fault State} (hi : ordinary i = true) (hb : ∀ u, body = .ok u → Body i s u)
    (h : s.plain body = .next t) : Effect s i t :=
  effect_goOn hi hb (notAfterPfxio_next h).2

theorem effect_skipIf {cond : Bool} (hi : ordinary i = true) (hs : isSkip i = true) (h : s.skipIf cond = .ok t) :
    Effect s i t := by
  rcases skipIf_ok h with ⟨-, rfl⟩ | ⟨-, w, u, hu, rfl⟩
  · exact .ordinary hi .same (.skip (.inl rfl))
  · obtain ⟨d, f, rfl, hd⟩ := fetch_icache hu
    have hic : IcacheBy i s d := by
      rcases hd with rfl | ⟨hc, l, rfl⟩
      · exact .same
      · exact .line hs hc
    refine .ordinary hi (.mk .same .same .same .same hic) (.skip (.inr ?_))
    split
    · exact .inr rfl
    · exact .inl rfl

theorem effect_readReg_skipIf {r : RegNum} {test : Word → Bool} (hi : ordinary i = true) (hs : isSkip i = true)
    (h : s.transfer (do let x ← s.readReg r; s.skipIf (test x)) = .next t) : Effect s i t := by
  obtain ⟨-, -, h⟩ := transfer_next h
  obtain ⟨x, -, h⟩ := bind_ok.mp h
  exact effect_skipIf hi hs h

theorem effect_skps {cc : BitVec 4} (h : exec (.skps cc) s = .next t) : Effect s (.skps cc) t := by
  obtain ⟨-, -, h⟩ := transfer_next h
  split at h
  · exact effect_skipIf rfl rfl h
  · cases h

/-- BSR and CALL: the link register, then the branch. -/
theorem effect_link {target : Word} (hi : ordinary i = true)
    (ha : phys s.status.cwp 15#5 ∈ destinations i s.status.cwp)
    (ht : s.pc.getLsbD 0 = false → target.getLsbD 0 = false)
    (h : (do let u ← s.writeReg 15#5 (returnAddress (s.pc + 4#32)); .ok (u.branchTo target)) = .ok t) :
    Effect s i t := by
  obtain ⟨u, hu, h⟩ := bind_ok.mp h
  obtain rfl := Except.ok.inj h
  obtain ⟨-, rfl⟩ := writeReg_ok hu
  exact .ordinary hi (.setRegs _ ha) (.branch ht)

theorem branchTarget_even {pc : Word} (imm : BitVec 11) (h : pc.getLsbD 0 = false) :
    (branchTarget pc imm).getLsbD 0 = false := by
  rw [even_iff_bit0] at h ⊢
  rw [branchTarget, BitVec.toNat_add, BitVec.toNat_shiftLeft, Nat.shiftLeft_eq]
  omega

theorem effect_takePrefix {imm : BitVec 11} {io : Bool} (hi : ordinary i = true) (hp : isPrefix i = true)
    (h : s.takePrefix imm io = .next t) : Effect s i t := by
  obtain ⟨hd, -, -, rfl⟩ := takePrefix_next h
  exact .ordinary hi .same (.prefixed hp hd)

theorem effect_save {imm : BitVec 8} (h : exec (.save imm) s = .next t) : Effect s (.save imm) t := by
  obtain ⟨hp, hbody⟩ := notAfterPfxio_next h
  obtain ⟨fp, hfp, -⟩ := bind_ok.mp (finish_next.mp hbody)
  rw [exec_save_of imm hp (readReg_iff.mp hfp), finish_next] at h
  split at h
  · obtain ⟨v, f, rfl⟩ := enter_inHandler h
    exact .underflow (underflows_iff.mp ‹_›)
  · obtain rfl := Except.ok.inj h
    exact .save (mt underflows_iff.mpr ‹_›)

theorem effect_restore (h : exec .restore s = .next t) : Effect s .restore t := by
  obtain ⟨hp, -⟩ := notAfterPfxio_next h
  rw [exec_restore_of hp, finish_next] at h
  split at h
  · obtain ⟨v, f, rfl⟩ := enter_inHandler h
    rw [if_pos rfl, inHandler_reopened]
    exact .overflow (overflows_iff.mp ‹_›)
  · obtain rfl := Except.ok.inj h
    exact .restore (mt overflows_iff.mpr ‹_›)

theorem effect_trap {n : BitVec 6} (h : exec (.trap n) s = .next t) : Effect s (.trap n) t := by
  obtain ⟨-, -, h⟩ := transfer_next h
  split at h
  · cases h
  · obtain ⟨v, f, rfl⟩ := enter_inHandler h
    exact .trap

end

/-- The inversion of `exec`, over the 70 forms. -/
theorem effect_of_exec {i : Instr} {s t : State} (h : exec i s = .next t) : Effect s i t := by
  cases i with
  | add a b =>
    exact effect_plain rfl
      (fun u => .of_readReg fun y => .of_addTo (.head _) fun n v z c => .all n v z c rfl rfl rfl) h
  | addi a imm =>
    exact effect_plain rfl (fun u => .of_addTo (.head _) fun n v z c => .all n v z c rfl rfl rfl) h
  | sub a b =>
    exact effect_plain rfl
      (fun u => .of_readReg fun y => .of_subFrom (.head _) fun n v z c => .all n v z c rfl rfl rfl) h
  | subi a imm =>
    exact effect_plain rfl (fun u => .of_subFrom (.head _) fun n v z c => .all n v z c rfl rfl rfl) h
  | cmp a b =>
    exact effect_plain rfl
      (fun u => .of_readReg fun y => .of_compareWith fun n v z c => .all n v z c rfl rfl rfl) h
  | cmpi a imm => exact effect_plain rfl (fun u => .of_compareWith fun n v z c => .all n v z c rfl rfl rfl) h
  | and a b | andn a b | or a b | xor a b => exact effect_plain rfl (fun u => .of_logicInto (.head _) rfl rfl) h
  | rlc a | rrc a =>
    exact effect_plain rfl (fun u => .of_readReg fun x => .of_rotateInto (.head _) rfl rfl) h
  | lsl a b | lsr a b | asr a b | ext8d a b | ext16d a b | usr0 a b => exact effect_plain rfl (fun u => .of_combine (.head _)) h
  | usr1 a | usr2 a | usr3 a | usr4 a | mul a | mstep a => exact effect_plain rfl (fun u => .of_combine (.head _)) h
  | lsli a imm | lsri a imm | asri a imm | movhi a imm | ext8s a imm | ext16s a imm =>
    exact effect_plain rfl (fun u => .of_update (.head _)) h
  | not a | neg a | abs a | sext8 a | sext16 a | swap a => exact effect_plain rfl (fun u => .of_update (.head _)) h
  | mov a b => exact effect_plain rfl (fun u => .of_readReg fun y => .of_writeReg (.head _)) h
  | fill8 a | fill16 a => exact effect_plain rfl (fun u => .of_readReg fun x => .of_writeReg (.head _)) h
  | movi a imm | bgen a imm => exact effect_plain rfl (fun u => .of_writeReg (.head _)) h
  | rdctl a =>
    refine effect_plain rfl (fun u hu => ?_) h
    obtain ⟨⟨v, w⟩, hc, hw⟩ := bind_ok.mp hu
    exact .of_readCtl (.head _) hc hw
  | ld a b | ldp a p imm => exact effect_goOn rfl (fun u => .of_readReg fun x => .of_loadInto (.head _) rfl) h
  | lds a imm => exact effect_plain rfl (fun u => .of_readReg fun x => .of_loadInto (.head _) rfl) h
  | st a b | stp a p imm | sts a imm =>
    exact effect_plain rfl (fun u => .of_readReg fun x => .of_readReg fun v => .of_wordStore rfl) h
  | st8d a | st8s a imm | sts8s imm =>
    exact effect_plain rfl (fun u => .of_readReg fun x => .of_readReg fun v => .of_byteStore rfl) h
  | st16d a | st16s a imm | sts16s imm =>
    exact effect_plain rfl (fun u => .of_readReg fun x => .of_readReg fun v => .of_halfStore rfl) h
  | skp0 a imm | skp1 a imm => exact effect_readReg_skipIf rfl rfl h
  | skprz a | skprnz a => exact effect_readReg_skipIf rfl rfl h
  | skps cc => exact effect_skps h
  | br imm =>
    obtain ⟨-, -, h⟩ := transfer_next h
    obtain rfl := Except.ok.inj h
    exact .ordinary rfl .same (.branch (branchTarget_even imm))
  | jmp a =>
    obtain ⟨-, -, h⟩ := transfer_next h
    obtain ⟨x, -, h⟩ := bind_ok.mp h
    obtain rfl := Except.ok.inj h
    exact .ordinary rfl .same (.branch fun _ => codeAddress_even x)
  | bsr imm =>
    obtain ⟨-, -, h⟩ := transfer_next h
    exact effect_link rfl (.head _) (branchTarget_even imm) h
  | call a =>
    obtain ⟨-, -, h⟩ := transfer_next h
    obtain ⟨x, -, h⟩ := bind_ok.mp h
    exact effect_link rfl (.head _) (fun _ => codeAddress_even x) h
  | pfx imm | pfxio imm => exact effect_takePrefix rfl rfl h
  | save imm => exact effect_save h
  | restore => exact effect_restore h
  | trap n => exact effect_trap h
  | tret a =>
    obtain ⟨-, -, h⟩ := transfer_next h
    obtain ⟨x, -, h⟩ := bind_ok.mp h
    obtain rfl := Except.ok.inj h
    exact .tret
  | wrctl a =>
    obtain ⟨-, u, hu, rfl⟩ := plain_next h
    obtain ⟨v, -, hu⟩ := bind_ok.mp hu
    exact .wrctl hu

end Sys2Proof.Machine

/-! The invariant `Sound` and the frames of the instructions, each read from `effect_of_exec` kind by kind. -/

namespace Sys2Proof.Machine

/-! ## What keeps a state sound -/

section
variable {s : State}

theorem Sound.drawn (h : Sound s) (f : Nat) : Sound { s with freeCtr := f } := { h with }

theorem Sound.setDline (h : Sound s) (hc : s.cfg.hasDCache = true) (w : Word) (l : DLine) : Sound (s.setDline w l) :=
  { h with
    dcacheForm := sparseWf_set _ _ _ _ h.dcacheForm
    dcacheLines := fun e he => (mem_sparseSet he).elim
      (fun heq => heq ▸ ⟨hc, (dline_of_word w h.config hc).1⟩) (h.dcacheLines e) }

theorem Sound.setIline (h : Sound s) (hc : s.cfg.hasICache = true) (a : Word) (l : ILine) : Sound (s.setIline a l) :=
  { h with
    icacheForm := sparseWf_set _ _ _ _ h.icacheForm
    icacheLines := fun e he => (mem_sparseSet he).elim
      (fun heq => heq ▸ ⟨hc, (iline_of_half a h.config hc).1⟩) (h.icacheLines e) }

theorem Sound.setStatus {st : Status} (h : Sound s) (hdc : st.dc = true → s.cfg.hasDCache = true)
    (hic : st.ic = true → s.cfg.hasICache = true) : Sound (s.setStatus st) :=
  { h with dcPresent := hdc, icPresent := hic }

theorem Sound.setIstatus {st : Status} (h : Sound s) (hdc : st.dc = true → s.cfg.hasDCache = true)
    (hic : st.ic = true → s.cfg.hasICache = true) : Sound (s.setIstatus st) :=
  { h with savedDcPresent := hdc, savedIcPresent := hic }

theorem Sound.setWvalid (h : Sound s) (w : Wvalid) : Sound (s.setWvalid w) := { h with }

theorem Sound.setNopdue (h : Sound s) (b : Bool) (hp : b = true → s.pfx = false ∧ s.delay = none) :
    Sound (s.setNopdue b) :=
  { h with nopdueAlone := hp }

theorem Sound.goto {p : Word} (h : Sound s) (hp : p.getLsbD 0 = false) : Sound (s.goto p) :=
  { h with
    pcEven := hp
    delayEven := fun _ ht => nomatch ht
    kOnlyAfterPrefix := fun _ => rfl
    iobypIsPrefix := fun hb => nomatch hb
    prefixNotInSlot := fun _ => rfl
    nopdueAlone := fun _ => ⟨rfl, rfl⟩ }

theorem add_even {p d : Word} (hp : p.getLsbD 0 = false) (hd : d.getLsbD 0 = false) : (p + d).getLsbD 0 = false := by
  rw [even_iff_bit0] at *
  rw [BitVec.toNat_add]
  omega

theorem Sound.nextPc_even (h : Sound s) : s.nextPc.getLsbD 0 = false := by
  unfold State.nextPc
  cases hd : s.delay with
  | none => exact add_even h.pcEven rfl
  | some d => exact h.delayEven d hd

theorem Sound.retire (h : Sound s) : Sound s.retire := h.goto h.nextPc_even

theorem Sound.branchTo {target : Word} (h : Sound s) (hn : s.nopdue = false) (ht : target.getLsbD 0 = false) :
    Sound (s.branchTo target) :=
  { h with
    pcEven := add_even h.pcEven rfl
    delayEven := fun _ heq => Option.some.inj heq ▸ ht
    kOnlyAfterPrefix := fun _ => rfl
    iobypIsPrefix := fun hb => nomatch hb
    prefixNotInSlot := fun hb => nomatch hb
    nopdueAlone := fun hb => nomatch hn.symm.trans hb }

theorem Sound.loadPrefix {imm : BitVec 11} {io : Bool} (h : Sound s) (hn : s.nopdue = false) :
    Sound (s.loadPrefix imm io) :=
  { h with
    pcEven := h.nextPc_even
    delayEven := fun _ heq => nomatch heq
    kOnlyAfterPrefix := fun hb => nomatch hb
    iobypIsPrefix := fun _ => rfl
    prefixNotInSlot := fun _ => rfl
    nopdueAlone := fun hb => nomatch hn.symm.trans hb }

/-- A handler runs with the caches of the STATUS it saves. -/
theorem Sound.inHandler {saved : Status} {w : BitVec 5} {n : BitVec 6} {ret v : Word} {f : Nat} (h : Sound s)
    (hdc : saved.dc = s.status.dc) (hic : saved.ic = s.status.ic) : Sound (s.inHandler saved w n ret v f) :=
  { h with
    registers := List.length_set.trans h.registers
    pcEven := codeAddress_even v
    delayEven := fun _ ht => nomatch ht
    kOnlyAfterPrefix := fun _ => rfl
    iobypIsPrefix := fun hb => nomatch hb
    prefixNotInSlot := fun _ => rfl
    nopdueAlone := fun hb => nomatch hb
    dcPresent := fun hb => h.dcPresent (hdc ▸ hb)
    icPresent := fun hb => h.icPresent (hic ▸ hb)
    savedDcPresent := fun hb => h.dcPresent (hdc ▸ hb)
    savedIcPresent := fun hb => h.icPresent (hic ▸ hb) }

theorem Status.dc_of_present {c : Config} {st : Status} (h : (st.present c).dc = true) : c.hasDCache = true :=
  (Bool.and_eq_true_iff.mp h).2

theorem Status.ic_of_present {c : Config} {st : Status} (h : (st.present c).ic = true) : c.hasICache = true :=
  (Bool.and_eq_true_iff.mp h).2

theorem Sound.leave {t : Word} (h : Sound s) (ht : t.getLsbD 0 = false) : Sound (s.leave t) :=
  (h.setStatus Status.dc_of_present Status.ic_of_present).goto ht

/-- %sp written in the window below. -/
theorem Sound.opened (h : Sound s) (sp : Word) : Sound (s.opened sp) :=
  { h with registers := List.length_set.trans h.registers }

theorem Sound.reopened (h : Sound s) : Sound s.reopened := { h with }

/-- The NOP that a WRCTL to STATUS makes due is due after the WRCTL has gone on, when no prefix and no branch stands. -/
theorem Sound.retire_writeCtl {u : State} {v : Word} (h : Sound s) (hu : s.writeCtl v = .ok u) : Sound u.retire := by
  rcases writeCtl_ok hu with ⟨-, rfl⟩ | ⟨-, rfl⟩ | ⟨-, rfl | rfl⟩ | ⟨-, rfl | ⟨rfl, hc⟩⟩ | ⟨-, rfl | ⟨rfl, hc⟩⟩ |
    ⟨-, rfl⟩ | ⟨-, rfl⟩
  · exact ((h.setStatus Status.dc_of_present Status.ic_of_present).retire).setNopdue true fun _ => ⟨rfl, rfl⟩
  · exact (h.setIstatus Status.dc_of_present Status.ic_of_present).retire
  · exact h.retire
  · exact (h.setWvalid _).retire
  · exact h.retire
  · exact (h.setIline hc v _).retire
  · exact h.retire
  · exact (h.setDline hc v _).retire
  · exact (h.setStatus (st := { s.status with ie := false }) h.dcPresent h.icPresent).retire
  · exact (h.setStatus (st := { s.status with ie := true }) h.dcPresent h.icPresent).retire

theorem MemBy.wf {i : Instr} {m : Memory} (h : Sound s) (hm : MemBy i s m) : m.wf = true := by
  cases hm with
  | same => exact h.memory
  | stored _ hk => exact Memory.wf_writeBytes _ _ _ h.memory (regionOf_bound hk h.config)

theorem Body.nopdue {i : Instr} {u : State} (hu : Body i s u) : u.nopdue = s.nopdue := by
  cases hu
  rfl

theorem Sound.of_body {i : Instr} {u : State} (h : Sound s) (hu : Body i s u) : Sound u := by
  obtain @⟨r, st, m, d, ic, f, hr, hst, hm, hd, hic⟩ := hu
  have hcaches : Sound { s with dcache := d, icache := ic } := by
    cases hd with
    | same =>
      cases hic with
      | same => exact h
      | line _ hc => exact h.setIline hc _ _
    | line _ hcd =>
      cases hic with
      | same => exact h.setDline hcd _ _
      | line _ hc => exact (h.setDline hcd _ _).setIline hc _ _
  exact { hcaches with
    memory := hm.wf h
    registers := hr.length.trans h.registers
    dcPresent := fun hb => h.dcPresent (hst.dc ▸ hb)
    icPresent := fun hb => h.icPresent (hst.ic ▸ hb) }

theorem Sound.of_goesOn {i : Instr} {t : State} (h : Sound s) (hn : s.nopdue = false) (ht : GoesOn i s t) : Sound t := by
  cases ht with
  | sequence => exact h.retire
  | skip hp =>
    refine h.goto ?_
    rcases hp with rfl | rfl | rfl
    all_goals exact add_even h.pcEven rfl
  | branch ht => exact h.branchTo hn (ht h.pcEven)
  | prefixed => exact h.loadPrefix hn

/-- An instruction runs with no NOP due any more (R43 step 3) and leaves a sound state. -/
theorem Sound.of_exec {i : Instr} {t : State} (h : Sound s) (hn : s.nopdue = false) (ht : exec i s = .next t) :
    Sound t := by
  cases effect_of_exec ht with
  | ordinary _ hu ht =>
    exact (h.of_body hu).of_goesOn (hu.nopdue.trans hn) ht
  | save => exact (h.opened _).retire
  | underflow => exact (h.opened _).inHandler rfl rfl
  | restore => exact h.reopened.retire
  | overflow => exact h.inHandler rfl rfl
  | trap => exact h.inHandler rfl rfl
  | tret => exact h.leave (codeAddress_even _)
  | wrctl hu => exact h.retire_writeCtl hu

theorem Sound.sampleInputs (h : Sound s) : Sound s.sampleInputs := by
  cases hx : s.irqTrace with
  | nil => rwa [sampleInputs_nil hx]
  | cons x rest =>
    rw [sampleInputs_cons hx]
    exact { h with }

end

/-! ## A step that answers with a state -/

theorem fetchInstr_ok {s u : State} {i : Instr} (h : s.fetchInstr = .ok (i, u)) :
    ∃ w t, s.fetch s.pc = .ok (w, t) ∧ u = t.setNopdue false := by
  obtain ⟨⟨w, t⟩, hf, h⟩ := bind_ok.mp h
  dsimp only at h
  split at h
  · cases h
  · obtain ⟨j, -, h⟩ := bind_ok.mp h
    obtain ⟨-, rfl⟩ := Prod.mk.inj (Except.ok.inj h)
    exact ⟨w, t, hf, rfl⟩

/-- A step takes an interrupt or runs the instruction it has fetched (R43). -/
theorem step_next {s t : State} (h : step s = .next t) :
    (∃ v f, t = s.sampleInputs.inHandler s.sampleInputs.status (s.sampleInputs.status.cwp - 1#5)
      s.sampleInputs.irqNumber s.sampleInputs.pc v f) ∨
    ∃ i u, s.sampleInputs.fetchInstr = .ok (i, u) ∧ exec i u = .next t := by
  unfold step at h
  simp only at h
  split at h
  · cases h
  split at h
  · obtain ⟨v, f, ht⟩ := enter_inHandler (finish_next.mp h)
    exact .inl ⟨v, f, ht⟩
  split at h
  · exact .inr ⟨_, _, ‹_›, h⟩
  · cases h

/-- Settles O8: a step samples, enters a handler or fetches, and runs an instruction; each keeps the state sound. -/
theorem invariantStep : Obligations.InvariantStep := by
  intro s t h ht
  have hs : Sound s.sampleInputs := h.sampleInputs
  rcases step_next ht with ⟨v, f, rfl⟩ | ⟨i, u, hf, ht⟩
  · exact hs.inHandler rfl rfl
  · obtain ⟨w, x, hx, rfl⟩ := fetchInstr_ok hf
    obtain ⟨d, f, rfl, hd⟩ := fetch_icache hx
    have hfetched : Sound { s.sampleInputs with icache := d } := by
      rcases hd with rfl | ⟨hc, l, rfl⟩
      · exact hs
      · exact hs.setIline hc _ l
    exact ((hfetched.drawn f).setNopdue false fun hb => nomatch hb).of_exec rfl ht


/-! ## What WRCTL leaves alone -/

section
variable {s u : State} {v : Word}

theorem k_ne_of_toNat {k : BitVec 11} {n : Nat} (hk : k ≠ BitVec.ofNat 11 n) (hn : n < 2 ^ 11) : k.toNat ≠ n :=
  fun h => hk (BitVec.eq_of_toNat_eq (h.trans (Nat.mod_eq_of_lt hn).symm))

/-- WRCTL changes no register of the file, no byte of memory, no input and no parameter. -/
theorem writeCtl_frame (h : s.writeCtl v = .ok u) : ∃ st ist w d ic b,
    u = { s with status := st, istatus := ist, wvalid := w, dcache := d, icache := ic, nopdue := b } := by
  rcases writeCtl_ok h with ⟨-, rfl⟩ | ⟨-, rfl⟩ | ⟨-, rfl | rfl⟩ | ⟨-, rfl | ⟨rfl, -⟩⟩ | ⟨-, rfl | ⟨rfl, -⟩⟩ |
    ⟨-, rfl⟩ | ⟨-, rfl⟩
  all_goals exact ⟨_, _, _, _, _, _, rfl⟩

/-- The flags and the NOP due are written with STATUS alone. -/
theorem writeCtl_status (h : s.writeCtl v = .ok u) (hk : s.k ≠ 0#11) :
    (u.status.n = s.status.n ∧ u.status.v = s.status.v ∧ u.status.z = s.status.z ∧ u.status.c = s.status.c) ∧
      u.nopdue = s.nopdue := by
  rcases writeCtl_ok h with ⟨h0, -⟩ | ⟨-, rfl⟩ | ⟨-, rfl | rfl⟩ | ⟨-, rfl | ⟨rfl, -⟩⟩ | ⟨-, rfl | ⟨rfl, -⟩⟩ |
    ⟨-, rfl⟩ | ⟨-, rfl⟩
  case inl => exact absurd h0 (k_ne_of_toNat hk (by decide))
  all_goals exact ⟨⟨rfl, rfl, rfl, rfl⟩, rfl⟩

theorem writeCtl_nopdue (h : s.writeCtl v = .ok u) (hk : s.k = 0#11) : u.nopdue = true := by
  have hu : u = s.writeStatus v := by simpa [State.writeCtl, hk] using h.symm
  rw [hu]
  rfl

theorem writeCtl_wvalid (h : s.writeCtl v = .ok u) (hk : s.k ≠ 2#11) : u.wvalid = s.wvalid := by
  rcases writeCtl_ok h with ⟨-, rfl⟩ | ⟨-, rfl⟩ | ⟨h2, -⟩ | ⟨-, rfl | ⟨rfl, -⟩⟩ | ⟨-, rfl | ⟨rfl, -⟩⟩ |
    ⟨-, rfl⟩ | ⟨-, rfl⟩
  case inr.inr.inl => exact absurd h2 (k_ne_of_toNat hk (by decide))
  all_goals rfl

theorem writeCtl_icache (h : s.writeCtl v = .ok u) (hk : s.k ≠ 5#11) : u.icache = s.icache := by
  rcases writeCtl_ok h with ⟨-, rfl⟩ | ⟨-, rfl⟩ | ⟨-, rfl | rfl⟩ | ⟨h5, -⟩ | ⟨-, rfl | ⟨rfl, -⟩⟩ | ⟨-, rfl⟩ | ⟨-, rfl⟩
  case inr.inr.inr.inl => exact absurd h5 (k_ne_of_toNat hk (by decide))
  all_goals rfl

theorem writeCtl_dcache (h : s.writeCtl v = .ok u) (hk : s.k ≠ 7#11) : u.dcache = s.dcache := by
  rcases writeCtl_ok h with ⟨-, rfl⟩ | ⟨-, rfl⟩ | ⟨-, rfl | rfl⟩ | ⟨-, rfl | ⟨rfl, -⟩⟩ | ⟨h7, -⟩ | ⟨-, rfl⟩ | ⟨-, rfl⟩
  case inr.inr.inr.inr.inl => exact absurd h7 (k_ne_of_toNat hk (by decide))
  all_goals rfl

end

/-! ## What an ordinary instruction leaves alone -/

/-- Going on changes the program counter, the pending branch and the prefix state alone. -/
theorem GoesOn.frame {i : Instr} {u t : State} (h : GoesOn i u t) : ∃ pc d k p b,
    t = { u with pc := pc, delay := d, k := k, pfx := p, iobyp := b } := by
  cases h
  all_goals exact ⟨_, _, _, _, _, rfl⟩

/-- An ordinary instruction, its body and its going on in one. -/
theorem ordinary_frame {i : Instr} {s u t : State} (hu : Body i s u) (ht : GoesOn i u t) :
    ∃ r st m d ic f pc dl k p b,
      RegsBy i s r ∧ FlagsBy i s.status st ∧ MemBy i s m ∧ DcacheBy i s d ∧ IcacheBy i s ic ∧
      t = { s with regs := r, status := st, mem := m, dcache := d, icache := ic, freeCtr := f, pc := pc, delay := dl,
                   k := k, pfx := p, iobyp := b } := by
  obtain ⟨pc, dl, k, p, b, rfl⟩ := ht.frame
  obtain ⟨hr, hst, hm, hd, hic⟩ := hu
  exact ⟨_, _, _, _, _, _, _, _, _, _, _, hr, hst, hm, hd, hic, rfl⟩

/-! ## The frame statements -/

/-- Settles O11: every way of going on but a prefix's clears K and the prefix state. -/
theorem prefixStateClears : Obligations.PrefixStateClears := by
  intro i s t hi h
  cases effect_of_exec h with
  | ordinary _ _ ht =>
    cases ht with
    | prefixed hp => simp [hi] at hp
    | sequence | skip | branch => exact ⟨rfl, rfl, rfl⟩
  | save | underflow | restore | overflow | trap | tret | wrctl => exact ⟨rfl, rfl, rfl⟩

/-- Settles O12: only `MemBy.stored` writes. -/
theorem onlyStoresChangeMemory : Obligations.OnlyStoresChangeMemory := by
  intro i s t hi h
  cases effect_of_exec h with
  | ordinary _ hu ht =>
    obtain ⟨r, st, m, d, ic, f, pc, dl, k, p, b, -, -, hm, -, -, rfl⟩ := ordinary_frame hu ht
    cases hm with
    | same => exact fun _ => rfl
    | stored hs => simp [hi] at hs
  | wrctl hu =>
    obtain ⟨st, ist, w, d, ic, b, rfl⟩ := writeCtl_frame hu
    exact fun _ => rfl
  | save | underflow | restore | overflow | trap | tret => exact fun _ => rfl

theorem RegsBy.frame {i : Instr} {s t : State} (h : RegsBy i s t.regs) : t.regs.length = s.regs.length ∧
    ∀ p, p ∉ destinations i s.status.cwp → t.regs[p]? = s.regs[p]? := ⟨h.length, h.others⟩

/-- Settles O13: each form's writes are to its destinations, in SAVE's underflow two of them. -/
theorem registerFrame : Obligations.RegisterFrame := by
  intro i s t h
  apply RegsBy.frame
  cases effect_of_exec h with
  | ordinary _ hu ht =>
    obtain ⟨r, st, m, d, ic, f, pc, dl, k, p, b, hr, -, -, -, -, rfl⟩ := ordinary_frame hu ht
    exact hr
  | save => exact RegsBy.same.set _ (.head _)
  | underflow => exact (RegsBy.same.set _ (.head _)).set _ (.tail _ (.head _))
  | overflow => exact RegsBy.same.set _ (.head _)
  | trap => exact RegsBy.same.set _ (.head _)
  | wrctl hu =>
    obtain ⟨st, ist, w, d, ic, b, rfl⟩ := writeCtl_frame hu
    exact .same
  | restore | tret => exact .same

/-- Settles O14: `FlagsBy` for an ordinary instruction, `writeCtl_status` for WRCTL; the others keep the flags. -/
theorem flagFrame : Obligations.FlagFrame := by
  intro i s t h
  cases effect_of_exec h with
  | ordinary hi hu ht =>
    obtain ⟨r, st, m, d, ic, f, pc, dl, k, p, b, -, hst, -, -, -, rfl⟩ := ordinary_frame hu ht
    refine ⟨hst.logic, hst.carry, ?_⟩
    rintro (⟨⟨a, rfl⟩, -⟩ | ⟨ha, hl, hc⟩)
    · cases hi
    · exact hst.kept ha hl hc
  | wrctl hu =>
    refine ⟨fun hl => (nomatch hl), fun hc => (nomatch hc), ?_⟩
    rintro (⟨-, hk⟩ | ⟨ha, -, -⟩)
    · exact (writeCtl_status hu hk).1
    · cases ha
  | tret =>
    refine ⟨fun hl => (nomatch hl), fun hc => (nomatch hc), ?_⟩
    rintro (⟨⟨a, ha⟩, -⟩ | ⟨ha, -, -⟩)
    · cases ha
    · cases ha
  | save | underflow | restore | overflow | trap =>
    exact ⟨fun _ => ⟨rfl, rfl⟩, fun _ => ⟨rfl, rfl, rfl⟩, fun _ => ⟨rfl, rfl, rfl, rfl⟩⟩

/-- Settles O15, kind by kind. -/
theorem statusFrame : Obligations.StatusFrame := by
  intro i s t h hw ht
  cases effect_of_exec h with
  | ordinary hi hu ht =>
    obtain ⟨r, st, m, d, ic, f, pc, dl, k, p, b, -, hst, -, -, -, rfl⟩ := ordinary_frame hu ht
    exact ⟨hst.dc, hst.ic, fun _ _ _ => ⟨hst.ie, hst.ipri, hst.cwp⟩⟩
  | save | underflow => exact ⟨rfl, rfl, fun hs => absurd rfl (hs _)⟩
  | restore | overflow => exact ⟨rfl, rfl, fun _ hr => absurd rfl hr⟩
  | trap => exact ⟨rfl, rfl, fun _ _ hn => absurd rfl (hn _)⟩
  | tret => exact absurd rfl (ht _)
  | wrctl => exact absurd rfl (hw _)

/-- Settles O17: the lines that loads, stores and skips set are in `DcacheBy` and `IcacheBy`. -/
theorem cacheFrame : Obligations.CacheFrame := by
  intro i s t h
  cases effect_of_exec h with
  | ordinary hi hu ht =>
    obtain ⟨r, st, m, d, ic, f, pc, dl, k, p, b, -, -, -, hd, hic, rfl⟩ := ordinary_frame hu ht
    refine ⟨fun hl hs _ => ?_, fun hs _ => ?_⟩
    · cases hd with
      | same => rfl
      | line hline => simp [hl, hs] at hline
    · cases hic with
      | same => rfl
      | line hline => simp [hs] at hline
  | wrctl hu =>
    refine ⟨fun _ _ hk => ?_, fun _ hk => ?_⟩
    · exact (State.retire_dcache _).trans (writeCtl_dcache hu (hk.resolve_left fun hi => hi _ rfl))
    · exact (State.retire_icache _).trans (writeCtl_icache hu (hk.resolve_left fun hi => hi _ rfl))
  | save | underflow | restore | overflow | trap | tret => exact ⟨fun _ _ _ => rfl, fun _ _ => rfl⟩

/-! ## ISTATUS, WVALID, the NOP due, the inputs and the parameters -/

/-- The parameters and the inputs after `s` are those of `s`. -/
def SameWorld (s t : State) : Prop :=
  t.cfg = s.cfg ∧ t.irq = s.irq ∧ t.irqNumber = s.irqNumber ∧ t.irqTrace = s.irqTrace

theorem sameWorld_exec {i : Instr} {s t : State} (h : exec i s = .next t) : SameWorld s t := by
  cases effect_of_exec h with
  | ordinary hi hu ht =>
    obtain ⟨r, st, m, d, ic, f, pc, dl, k, p, b, -, -, -, -, -, rfl⟩ := ordinary_frame hu ht
    exact ⟨rfl, rfl, rfl, rfl⟩
  | wrctl hu =>
    obtain ⟨st, ist, w, d, ic, b, rfl⟩ := writeCtl_frame hu
    exact ⟨rfl, rfl, rfl, rfl⟩
  | save | underflow | restore | overflow | trap | tret => exact ⟨rfl, rfl, rfl, rfl⟩

/-- A step takes one sample of the inputs; nothing else changes them or the parameters. -/
theorem sameWorld_step {s t : State} (h : step s = .next t) : SameWorld s.sampleInputs t := by
  rcases step_next h with ⟨v, f, rfl⟩ | ⟨i, u, hf, ht⟩
  · exact ⟨rfl, rfl, rfl, rfl⟩
  · obtain ⟨w, x, hx, rfl⟩ := fetchInstr_ok hf
    obtain ⟨d, f, rfl⟩ := fetch_frame hx
    obtain ⟨hcfg, hirq, hnumber, htrace⟩ := sameWorld_exec ht
    exact ⟨hcfg, hirq, hnumber, htrace⟩

theorem istatus_exec {i : Instr} {s t : State} (h : exec i s = .next t) (hs : ∀ n, i ≠ .save n) (hr : i ≠ .restore)
    (ht : ∀ n, i ≠ .trap n) (hw : ∀ a, i ≠ .wrctl a) : t.istatus = s.istatus := by
  cases effect_of_exec h with
  | ordinary hi hu ht =>
    obtain ⟨r, st, m, d, ic, f, pc, dl, k, p, b, -, -, -, -, -, rfl⟩ := ordinary_frame hu ht
    rfl
  | save | underflow => exact absurd rfl (hs _)
  | restore | overflow => exact absurd rfl hr
  | trap => exact absurd rfl (ht _)
  | tret => rfl
  | wrctl => exact absurd rfl (hw _)

theorem wvalid_exec {i : Instr} {s t : State} (h : exec i s = .next t) (hw : (∀ a, i ≠ .wrctl a) ∨ s.k ≠ 2#11) :
    t.wvalid = s.wvalid := by
  cases effect_of_exec h with
  | ordinary hi hu ht =>
    obtain ⟨r, st, m, d, ic, f, pc, dl, k, p, b, -, -, -, -, -, rfl⟩ := ordinary_frame hu ht
    rfl
  | wrctl hu => exact (State.retire_wvalid _).trans (writeCtl_wvalid hu (hw.resolve_left fun hi => hi _ rfl))
  | save | underflow | restore | overflow | trap | tret => rfl

theorem nopdue_save {n : BitVec 8} {s t : State} (h : exec (.save n) s = .next t) : t.nopdue =
    if s.status.cwp = s.wvalid.loLimit ∧ s.status.ie = true ∧ 1 < s.status.ipri.toNat then false else s.nopdue := by
  cases effect_of_exec h with
  | ordinary hi => cases hi
  | save hn => exact (if_neg hn).symm
  | underflow hn => exact (if_pos hn).symm

theorem nopdue_restore {s t : State} (h : exec .restore s = .next t) : t.nopdue =
    if s.status.cwp = s.wvalid.hiLimit ∧ s.status.ie = true ∧ 2 < s.status.ipri.toNat then false else s.nopdue := by
  cases effect_of_exec h with
  | ordinary hi => cases hi
  | restore hn => exact (if_neg hn).symm
  | overflow hn => exact (if_pos hn).symm

theorem nopdue_trap {n : BitVec 6} {s t : State} (h : exec (.trap n) s = .next t) : t.nopdue = false := by
  cases effect_of_exec h with
  | ordinary hi => cases hi
  | trap => rfl

theorem nopdue_wrctl {a : RegNum} {s t : State} (h : exec (.wrctl a) s = .next t) (hk : s.k = 0#11) :
    t.nopdue = true := by
  cases effect_of_exec h with
  | ordinary hi => cases hi
  | wrctl hu => exact (State.retire_nopdue _).trans (writeCtl_nopdue hu hk)

theorem nopdue_other {i : Instr} {s t : State} (h : exec i s = .next t) (hs : ∀ n, i ≠ .save n) (hr : i ≠ .restore)
    (ht : ∀ n, i ≠ .trap n) (hw : (∀ a, i ≠ .wrctl a) ∨ s.k ≠ 0#11) : t.nopdue = s.nopdue := by
  cases effect_of_exec h with
  | ordinary hi hu ht =>
    obtain ⟨r, st, m, d, ic, f, pc, dl, k, p, b, -, -, -, -, -, rfl⟩ := ordinary_frame hu ht
    rfl
  | save | underflow => exact absurd rfl (hs _)
  | restore | overflow => exact absurd rfl hr
  | trap => exact absurd rfl (ht _)
  | tret => rfl
  | wrctl hu => exact (State.retire_nopdue _).trans (writeCtl_status hu (hw.resolve_left fun hi => hi _ rfl)).2

/-- Settles O16: the fields one by one, and the sampling by `sampleInputs_nil` and `sampleInputs_cons`. -/
theorem savedRegistersFrame : Obligations.SavedRegistersFrame := by
  refine ⟨fun i s t h => ?_, fun s => sampleInputs_nil, fun s x rest => sampleInputs_cons, fun s t h => ?_⟩
  · obtain ⟨hcfg, hirq, hnumber, htrace⟩ := sameWorld_exec h
    refine ⟨istatus_exec h, wvalid_exec h, hcfg, hirq, hnumber, htrace, ?_, ?_, ?_, ?_, nopdue_other h⟩
    · rintro ⟨a, rfl⟩
      exact nopdue_wrctl h
    · rintro ⟨n, rfl⟩
      exact nopdue_trap h
    · rintro ⟨n, rfl⟩
      exact nopdue_save h
    · rintro rfl
      exact nopdue_restore h
  · obtain ⟨hcfg, hirq, hnumber, htrace⟩ := sameWorld_step h
    cases hx : s.irqTrace with
    | nil =>
      rw [sampleInputs_nil hx] at hcfg hirq hnumber htrace
      exact ⟨hcfg, htrace.trans hx, fun _ => ⟨hirq, hnumber⟩, fun _ _ heq => nomatch heq⟩
    | cons x rest =>
      rw [sampleInputs_cons hx] at hcfg hirq hnumber htrace
      refine ⟨hcfg, htrace, fun heq => (nomatch heq), fun y tail heq => ?_⟩
      obtain ⟨rfl, -⟩ := List.cons.inj heq
      exact ⟨hirq, hnumber⟩

end Sys2Proof.Machine

/-! Stops by name (43_prefix_skip.md section 1, 44_control_transfer.md section 4, 93_implementation_defined.md): delay slots,
prefixes, TRAP 0, SKPS without a condition, and the control registers the manual does not define. -/

namespace Sys2Proof.Machine

/-! ## The delay slot (R276) -/

theorem transfer_in_slot {s : State} {d : Word} (body : Except Fault State) (h : s.delay = some d) :
    s.transfer body = .fault .delaySlot := by
  simp [State.transfer, State.notInSlot, h]

theorem takePrefix_in_slot {s : State} {d : Word} (imm : BitVec 11) (io : Bool) (h : s.delay = some d) :
    s.takePrefix imm io = .fault .delaySlot := by
  simp [State.takePrefix, State.notInSlot, h]

/-- Settles O18: eleven of the thirteen are transfers, the other two prefixes. -/
theorem delaySlotStops : Obligations.DelaySlotStops := by
  intro i s d hi h
  cases i with
  | pfx imm | pfxio imm => exact takePrefix_in_slot imm _ h
  | br _ | bsr _ | jmp _ | call _ | skp0 _ _ | skp1 _ _ | skprz _ | skprnz _ | skps _ | tret _ | trap _ =>
    exact transfer_in_slot _ h
  | _ => cases hi

/-! ## Prefixes (R250, R251) -/

theorem takePrefix_after_prefix {s : State} (imm : BitVec 11) (io : Bool) (hd : s.delay = none) (h : s.pfx = true) :
    s.takePrefix imm io = .fault .pfxPfx := by
  simp [State.takePrefix, hd, h]

theorem notAfterPfxio_stops {s : State} (r : Result) (h : s.iobyp = true) : s.notAfterPfxio r = .fault .pfxioTarget :=
  if_pos h

theorem transfer_after_pfxio {s : State} (body : Except Fault State) (hd : s.delay = none) (h : s.iobyp = true) :
    s.transfer body = .fault .pfxioTarget := by
  rw [State.transfer, notInSlot_of _ hd, notAfterPfxio_stops _ h]

theorem exec_after_pfxio {i : Instr} {s : State} (hi : isPrefix i = false) (hm : mayFollowPfxio i = false)
    (h : s.iobyp = true) (hd : s.delay = none ∨ slotForbidden i = false) : exec i s = .fault .pfxioTarget := by
  cases i with
  | pfx _ | pfxio _ => cases hi
  | ld _ _ | ldp _ _ _ => cases hm
  | br _ | bsr _ | jmp _ | call _ | skp0 _ _ | skp1 _ _ | skprz _ | skprnz _ | skps _ | tret _ | trap _ =>
    exact transfer_after_pfxio _ (hd.resolve_right fun hf => nomatch hf) h
  | _ => exact notAfterPfxio_stops _ h

/-- Settles O19: `takePrefix_after_prefix` and `exec_after_pfxio`. -/
theorem prefixStops : Obligations.PrefixStops := by
  refine fun i s => ⟨fun hi hd h => ?_, exec_after_pfxio⟩
  cases i with
  | pfx imm | pfxio imm => exact takePrefix_after_prefix imm _ hd h
  | _ => cases hi

/-! ## Instructions the manual does not define (U9, U10, U15, U16) -/

theorem transfer_error {s : State} {e : Fault} (hp : s.iobyp = false) (hd : s.delay = none) :
    s.transfer (.error e) = .fault e := by
  rw [State.transfer, notInSlot_of _ hd, notAfterPfxio_of _ hp, finish_error]

theorem plain_error {s : State} {body : Except Fault State} {e : Fault} (hp : s.iobyp = false) (hb : body = .error e) :
    s.plain body = .fault e := by
  rw [State.plain, notAfterPfxio_of _ hp, hb, goOn_error]

theorem readCtl_reserved {s : State} (h : s.k.toNat = 3 ∨ s.k.toNat = 4 ∨ 10 ≤ s.k.toNat) :
    s.readCtl = .error .reservedCtl := by
  unfold State.readCtl
  split
  case h_9 => rfl
  all_goals omega

theorem writeCtl_reserved {s : State} (v : Word)
    (h : s.k.toNat = 3 ∨ s.k.toNat = 4 ∨ s.k.toNat = 6 ∨ 10 ≤ s.k.toNat) : s.writeCtl v = .error .reservedCtl := by
  unfold State.writeCtl
  split
  case h_8 => rfl
  all_goals omega

/-- Settles O20, stop by stop. -/
theorem undefinedInstructionStops : Obligations.UndefinedInstructionStops := by
  intro s hp
  refine ⟨fun hd => transfer_error hp hd, fun hd cc hcc => ?_, fun a hk => ?_, fun a v ha hk => ?_⟩
  · rcases hcc with rfl | rfl
    · exact transfer_error hp hd
    · exact transfer_error hp hd
  · exact plain_error hp (by rw [readCtl_reserved hk, error_bind])
  · exact plain_error hp (by rw [readReg_of_holds ha, ok_bind, writeCtl_reserved v hk])

end Sys2Proof.Machine

/-! Results of the instructions on registers and flags that the sittings before left open: multiplication, immediate shifts,
rotations, the custom instructions, the skips not taken and what SKPS says after CMP. -/

namespace Sys2Proof.Machine

/-! ## Multiplication (R176, R177) -/

theorem toNat_mulLow (r x : Word) : (mulLow r x).toNat = (r.toNat % 2 ^ 16) * (x.toNat % 2 ^ 16) := by
  have hlow : ∀ v : Word, (v &&& 0xFFFF#32).toNat = v.toNat % 2 ^ 16 := fun v => by
    rw [BitVec.toNat_and]
    exact Nat.and_two_pow_sub_one_eq_mod v.toNat 16
  have hr := Nat.mod_lt r.toNat (Nat.two_pow_pos 16)
  have hx := Nat.mod_lt x.toNat (Nat.two_pow_pos 16)
  rw [mulLow, BitVec.toNat_mul, hlow, hlow, Nat.mod_eq_of_lt]
  exact (Nat.mul_lt_mul'' hr hx).trans_eq (by decide)

theorem toNat_multiplyStep (r x : Word) :
    (multiplyStep r x).toNat = (2 * r.toNat + (if r.getLsbD 31 then x.toNat else 0)) % 2 ^ 32 := by
  rw [multiplyStep, msb_eq_bit31]
  split
  · rw [BitVec.toNat_add, BitVec.toNat_shiftLeft, Nat.shiftLeft_eq]
    omega
  · rw [BitVec.toNat_shiftLeft, Nat.shiftLeft_eq]
    omega

/-- Settles O36: `plain_combine` on %r0, the products by `toNat_mulLow` and `toNat_multiplyStep`. -/
theorem multiplyResult : Obligations.MultiplyResult := fun _ a r x hp h0 ha =>
  ⟨decode_encode (.mul a) rfl, ⟨_, toNat_mulLow r x, plain_combine _ hp h0 ha⟩,
    decode_encode (.mstep a) rfl, ⟨_, toNat_multiplyStep r x, plain_combine _ hp h0 ha⟩⟩

/-! ## Shifts by an immediate (R192, R194, R196) -/

/-- Settles O38: `plain_update`, each shift read as arithmetic; K does not occur. -/
theorem immediateShiftResult : Obligations.ImmediateShiftResult := by
  intro s a imm x hp ha
  rw [← shiftLeft_eq_ofNat_mul, ← ushiftRight_eq_ofNat_div, ← sshiftRight_eq_ofInt_div]
  exact ⟨decode_encode (.lsli a imm) rfl, plain_update _ hp ha, decode_encode (.lsri a imm) rfl, plain_update _ hp ha,
    decode_encode (.asri a imm) rfl, plain_update _ hp ha⟩

/-! ## Rotations (R197, R198) -/

theorem getLsbD_carry_low (c : Bool) (i : Nat) : (if c then 1#32 else 0#32).getLsbD i = (c && decide (i = 0)) := by
  cases c <;> simp [BitVec.getLsbD_one]

theorem getLsbD_carry_high (c : Bool) (i : Nat) :
    (if c then 0x80000000#32 else 0#32).getLsbD i = (c && decide (i = 31)) := by
  have htop : 0x80000000#32 = BitVec.twoPow 32 31 := rfl
  cases c
  · simp
  · simp [htop, BitVec.getLsbD_twoPow, eq_comm]

theorem rotateLeftCarry_eq_or (c : Bool) (x : Word) :
    rotateLeftCarry c x = (x <<< 1) ||| (if c then 1#32 else 0#32) := by
  apply BitVec.eq_of_getLsbD_eq
  intro i hi
  rw [rotateLeftCarry, BitVec.getLsbD_append, BitVec.getLsbD_or, getLsbD_carry_low]
  cases i with
  | zero => simp
  | succ i =>
    have h31 : i < 31 := by omega
    simp [h31, hi, -BitVec.getLsbD_eq_getElem]

theorem rotateRightCarry_eq_or (c : Bool) (x : Word) :
    rotateRightCarry c x = (if c then 0x80000000#32 else 0#32) ||| (x >>> 1) := by
  apply BitVec.eq_of_getLsbD_eq
  intro i hi
  rw [rotateRightCarry, BitVec.getLsbD_append, BitVec.getLsbD_or, getLsbD_carry_high]
  by_cases h31 : i = 31
  · subst h31
    simp
  · have hlow : i < 31 := by omega
    simp [h31, hlow, -BitVec.getLsbD_eq_getElem]

theorem plain_rotate {s : State} {a : RegNum} {x : Word} (g : Word → Word) (c : Word → Bool) (hp : s.iobyp = false)
    (ha : Holds s a x) :
    s.plain (do let v ← s.readReg a; s.rotateInto a (g v) (c v)) =
      .next (((s.withReg a (g x)).setStatus (s.status.withCarry (c x))).advanced) :=
  plain_advanced hp (by
    rw [readReg_of_holds ha, ok_bind]
    exact rotateInto_of_lt _ _ (regExists_of_holds ha))

/-- Settles O39: `plain_rotate`, with the result as a shift and a carry put in. -/
theorem rotateResult : Obligations.RotateResult := by
  intro s a x hp ha
  rw [← rotateLeftCarry_eq_or, ← rotateRightCarry_eq_or, ← msb_eq_bit31]
  exact ⟨decode_encode (.rlc a) rfl, plain_rotate _ BitVec.msb hp ha,
    decode_encode (.rrc a) rfl, plain_rotate _ (·.getLsbD 0) hp ha⟩

/-! ## Custom instructions (R311 to R315) -/

/-- Settles O44: `plain_combine` for every choice of the operations. -/
theorem customResult : Obligations.CustomResult := fun _ a b _ _ _ hp ha =>
  ⟨decode_encode (.usr0 a b) rfl, plain_combine _ hp ha, decode_encode (.usr1 a) rfl, decode_encode (.usr2 a) rfl,
    decode_encode (.usr3 a) rfl, decode_encode (.usr4 a) rfl,
    fun h0 => ⟨plain_combine _ hp ha h0, plain_combine _ hp ha h0, plain_combine _ hp ha h0, plain_combine _ hp ha h0⟩⟩

/-! ## Skips not taken (R253) -/

theorem skipIf_not {s : State} {cond : Bool} (h : cond = false) : s.skipIf cond = .ok (s.jumped (s.pc + 2#32)) := by
  subst h
  rfl

theorem transfer_skipIf_not {s : State} {a : RegNum} {x : Word} {test : Word → Bool} (hp : s.iobyp = false)
    (hd : s.delay = none) (ha : Holds s a x) (htest : test x = false) :
    s.transfer (do let v ← s.readReg a; s.skipIf (test v)) = .next (s.jumped (s.pc + 2#32)) :=
  transfer_of hd hp (by rw [readReg_of_holds ha, ok_bind, skipIf_not htest])

/-- Settles O50: `transfer_skipIf_not` for the four register tests, `condition_ofNat` for the fourteen conditions. -/
theorem skipNotTaken : Obligations.SkipNotTaken := by
  intro s a imm x hp hd ha
  have hbit := getLsbD_iff_div_mod x imm.toNat
  refine ⟨fun h => transfer_skipIf_not hp hd ha ?_, fun h => transfer_skipIf_not hp hd ha ?_,
    fun h => transfer_skipIf_not hp hd ha (beq_false_of_ne h), fun h => transfer_skipIf_not hp hd ha ?_, fun cc h => ?_⟩
  · rw [hbit.mpr h]
    rfl
  · rw [← Bool.not_eq_true, hbit, h]
    decide
  · rw [h]
    rfl
  · exact transfer_of hd hp (by rw [condition_ofNat]; exact skipIf_not h)

/-! ## What SKPS says after CMP (R257) -/

/-- N xor V after a subtraction, as the comparison it is. -/
theorem subFlags_n_xor_v (st : Status) (x y : Word) :
    ((st.subFlags x y).n ^^ (st.subFlags x y).v) = decide (x.toInt < y.toInt) := by
  rw [Bool.eq_iff_iff, decide_eq_true_iff, ← negative_xor_overflow_iff x y]
  rfl

theorem subFlags_z_eq (st : Status) (x y : Word) : (st.subFlags x y).z = decide (x = y) := by
  rw [Bool.eq_iff_iff, decide_eq_true_iff]
  exact beq_iff_eq.trans sub_eq_zero

/-- Lower or the same, unsigned. -/
theorem subFlags_c_or_z (st : Status) (x y : Word) :
    ((st.subFlags x y).c || (st.subFlags x y).z) = decide (x.toNat ≤ y.toNat) := by
  rw [subFlags_z_eq, Bool.eq_iff_iff, Bool.or_eq_true, decide_eq_true_iff, decide_eq_true_iff, Nat.le_iff_lt_or_eq,
    BitVec.toNat_inj]
  exact or_congr_left decide_eq_true_iff

/-- Less than or equal, signed. -/
theorem subFlags_z_or_n_xor_v (st : Status) (x y : Word) :
    ((st.subFlags x y).z || ((st.subFlags x y).n ^^ (st.subFlags x y).v)) = decide (x.toInt ≤ y.toInt) := by
  rw [subFlags_z_eq, subFlags_n_xor_v, Bool.eq_iff_iff, Bool.or_eq_true, decide_eq_true_iff, decide_eq_true_iff,
    decide_eq_true_iff, le_iff_lt_or_eq, BitVec.toInt_inj, or_comm]

theorem some_not_decide {p q : Prop} [Decidable p] [Decidable q] {b : Bool} (hb : b = decide p) (hpq : ¬ p ↔ q) :
    some (!b) = some (decide q) := by
  rw [hb, ← decide_not, decide_eq_decide.mpr hpq]

/-- Settles O33: the flags CMP leaves are those of the subtraction; each condition is a comparison or its negation. -/
theorem skipConditionsAfterCompare : Obligations.SkipConditionsAfterCompare := by
  intro s t a b x y ha hb h
  rw [exec_cmp (plain_next h).1 ha hb] at h
  obtain rfl := Host.Outcome.next.inj h
  have hlower : (s.status.subFlags x y).c = decide (x.toNat < y.toNat) := rfl
  have hequal := subFlags_z_eq s.status x y
  have hless := subFlags_n_xor_v s.status x y
  have hlowerSame := subFlags_c_or_z s.status x y
  have hlessEqual := subFlags_z_or_n_xor_v s.status x y
  exact ⟨congrArg some hlower, some_not_decide hlower not_lt, congrArg some hequal, some_not_decide hequal Iff.rfl,
    some_not_decide hless not_lt, congrArg some hless, congrArg some hlessEqual, some_not_decide hlessEqual not_le,
    congrArg some hlowerSame, some_not_decide hlowerSame not_le⟩

end Sys2Proof.Machine

/-! Loads and stores (42_load_store.md): the state that a word read, a word stored and a part of a word stored leave, and with
these the results of the three loads and the nine stores. -/

namespace Sys2Proof.Machine

/-! ## Loads -/

/-- The data cache after a load: past the cache it is untouched, through it the word is in its line. -/
theorem dataLoad_line {s : State} {w v : Word} {b : Bool} {f : Nat} (h : LoadsWord s w b v f) :
    ∃ d, s.dataLoad w b = .ok (v, { s with dcache := d, freeCtr := f }) ∧ (Uncached s b → d = s.dcache) ∧
      (¬ Uncached s b → ∀ t : State, t.cfg = s.cfg → t.dcache = d → SetsDataLine s t w (.valid (dtag s.cfg w) v)) := by
  rcases h with ⟨hu, hb⟩ | ⟨hu, hl, rfl⟩ | ⟨hu, hl, hb⟩
  · exact ⟨s.dcache, by rw [dataLoad_uncached w hu, busReadWord_of hb], fun _ => rfl, fun h => absurd hu h⟩
  · refine ⟨s.dcache, dataLoad_hit hu hl, fun _ => rfl, fun _ t hcfg hd => ?_⟩
    have hlines : ∀ a, t.dline a = s.dline a := fun a => by rw [State.dline, State.dline, hcfg, hd]
    exact ⟨(hlines w).trans hl, fun a _ => hlines a⟩
  · exact ⟨_, (dataLoad_miss hu hl).trans (dataFill_of hb), fun h => absurd h hu, fun _ t => setsDataLine_of⟩

/-- LD, LDP and LDS: read the base, read the word, write x[A]. -/
theorem load_of {s : State} {a r : RegNum} {base v : Word} {w : Word → Word} {b : Bool} {f : Nat}
    (hr : Holds s r base) (ha : RegExists s a) (hl : LoadsWord s (w base) b v f) :
    ∃ u, (do let x ← s.readReg r; s.loadInto a (w x) b) = .ok u ∧ Loaded s u.advanced a (w base) b v f := by
  obtain ⟨d, hd, huncached, hcached⟩ := dataLoad_line hl
  refine ⟨State.withReg { s with dcache := d, freeCtr := f } a v, ?_, rfl, huncached, fun hu => hcached hu _ rfl rfl⟩
  rw [readReg_of_holds hr, ok_bind, State.loadInto, hd, ok_bind]
  exact writeReg_of_exists v ha

theorem goOn_advanced {u : State} {body : Except Fault State} (hb : body = .ok u) : goOn body = .next u.advanced :=
  hb ▸ goOn_ok u

/-- Settles O45: `load_of` for the three; LD and LDP may follow PFXIO. -/
theorem loadResult : Obligations.LoadResult := by
  intro s a b p imm imm8 base v f ha
  refine ⟨decode_encode (.ld a b) rfl, fun hb hl => ?_, decode_encode (.ldp a p imm) rfl, fun hb hl => ?_,
    decode_encode (.lds a imm8) rfl, fun hb hp hl => ?_⟩
  · obtain ⟨u, hu, hloaded⟩ := load_of (w := fun x => align32 (x + prefixOffset s.k)) hb ha hl
    exact ⟨_, goOn_advanced hu, hloaded⟩
  · obtain ⟨u, hu, hloaded⟩ := load_of (w := fun x => align32 (x + pointerOffset s.k imm)) hb ha hl
    exact ⟨_, goOn_advanced hu, hloaded⟩
  · obtain ⟨u, hu, hloaded⟩ := load_of (w := fun x => align32 (x + stackOffset imm8)) hb ha hl
    exact ⟨_, plain_advanced hp hu, hloaded⟩

/-! ## What a store leaves in memory -/

theorem storesAt_of {s t : State} {a : Nat} {l : List Byte} (h : t.mem = s.mem.writeBytes a l) : StoresAt s t a l := by
  unfold StoresAt
  rw [h]
  exact ⟨fun i => Memory.readByte_writeBytes_inside l s.mem a i, fun c => Memory.readByte_writeBytes_outside l s.mem⟩

theorem sameMemory_of {s t : State} (h : t.mem = s.mem) : SameMemory s t := fun c => by rw [h]

/-- A bus write to a region of kind `kind` (D28). -/
theorem busWrite_of {s : State} {a : Word} {l : List Byte} {kind : RegionKind}
    (h : s.regionOf a.toNat l.length = .ok kind) :
    ∃ m, s.busWrite a l = .ok { s with mem := m } ∧ (kind = .ram → m = s.mem.writeBytes a.toNat l) ∧
      (kind ≠ .ram → m = s.mem) := by
  simp only [State.busWrite, h]
  cases kind with
  | ram => exact ⟨_, rfl, fun _ => rfl, fun hn => absurd rfl hn⟩
  | rom | device => exact ⟨s.mem, rfl, fun hk => (nomatch hk), fun _ => rfl⟩

/-! ## Word stores (R224 to R226) -/

theorem wordStore_of {s : State} {w v : Word} {kind : RegionKind} (h : s.regionOf w.toNat 4 = .ok kind) :
    ∃ u, s.wordStore w v = .ok u ∧ WordStored s u.advanced w v kind := by
  obtain ⟨m, hm, hram, hother⟩ := busWrite_of (l := wordBytes v) h
  cases hc : s.cfg.hasDCache with
  | true =>
    refine ⟨State.setDline { s with mem := m } w (.valid (dtag s.cfg w) v), ?_, rfl,
      fun hk => storesAt_of (hram hk), fun hk => sameMemory_of (hother hk), fun _ => setsDataLine_of rfl rfl, ?_⟩
    · simp [State.wordStore, hm, hc]
    · simp [hc]
  | false =>
    refine ⟨{ s with mem := m }, ?_, rfl, fun hk => storesAt_of (hram hk), fun hk => sameMemory_of (hother hk), ?_,
      fun _ => rfl⟩
    · simp [State.wordStore, hm, hc]
    · simp [hc]

theorem wordStore_unmapped {s : State} {w : Word} (v : Word) (h : Unmapped s w 4) :
    s.wordStore w v = .error .unmapped := by
  rw [State.wordStore, busWrite_unmapped (l := wordBytes v) h, error_bind]

/-- A store that completes: two registers are read, then `f` stores. -/
theorem store_next {s u : State} {r q : RegNum} {x y : Word} {f : Word → Word → Except Fault State}
    (hp : s.iobyp = false) (hr : Holds s r x) (hq : Holds s q y) (hf : f x y = .ok u) :
    s.plain (do let v ← s.readReg r; let z ← s.readReg q; f v z) = .next u.advanced :=
  plain_advanced hp (by rw [readReg_of_holds hr, ok_bind, readReg_of_holds hq, ok_bind, hf])

theorem store_fault {s : State} {r q : RegNum} {x y : Word} {e : Fault} {f : Word → Word → Except Fault State}
    (hp : s.iobyp = false) (hr : Holds s r x) (hq : Holds s q y) (hf : f x y = .error e) :
    s.plain (do let v ← s.readReg r; let z ← s.readReg q; f v z) = .fault e :=
  plain_error hp (by rw [readReg_of_holds hr, ok_bind, readReg_of_holds hq, ok_bind, hf])

/-- ST, STP and STS: the base register, x[A], and the store of the word. -/
theorem store_word {s : State} {r a : RegNum} {base v : Word} {kind : RegionKind} (w : Word → Word)
    (hp : s.iobyp = false) (ha : Holds s a v) (hr : Holds s r base) (hk : s.regionOf (w base).toNat 4 = .ok kind) :
    ∃ t, s.plain (do let x ← s.readReg r; let y ← s.readReg a; s.wordStore (w x) y) = .next t ∧
      WordStored s t (w base) v kind := by
  obtain ⟨u, hu, hstored⟩ := wordStore_of (v := v) hk
  exact ⟨_, store_next hp hr ha hu, hstored⟩

/-- The same where no region of the map holds the word. -/
theorem store_word_unmapped {s : State} {r a : RegNum} {base v : Word} (w : Word → Word) (hp : s.iobyp = false)
    (ha : Holds s a v) (hr : Holds s r base) (hm : Unmapped s (w base) 4) :
    s.plain (do let x ← s.readReg r; let y ← s.readReg a; s.wordStore (w x) y) = .fault .unmapped :=
  store_fault hp hr ha (wordStore_unmapped v hm)

/-- Settles O46: `store_word` where the map holds the word, `store_word_unmapped` where it does not. -/
theorem wordStoreResult : Obligations.WordStoreResult := by
  intro s a b p imm imm8 base v kind hp ha
  exact ⟨decode_encode (.st a b) rfl, store_word (fun x => align32 (x + prefixOffset s.k)) hp ha,
    store_word_unmapped (fun x => align32 (x + prefixOffset s.k)) hp ha,
    decode_encode (.stp a p imm) rfl, store_word (fun x => align32 (x + pointerOffset s.k imm)) hp ha,
    store_word_unmapped (fun x => align32 (x + pointerOffset s.k imm)) hp ha,
    decode_encode (.sts a imm8) rfl, store_word (fun x => align32 (x + stackOffset imm8)) hp ha,
    store_word_unmapped (fun x => align32 (x + stackOffset imm8)) hp ha⟩

/-! ## Partial-width stores (R227 to R232) -/

/-- The data cache holds the word at `w` (R98). -/
def HitsDline (s : State) (w : Word) : Prop := s.cfg.hasDCache = true ∧ ∃ d, s.dline w = .valid (dtag s.cfg w) d

theorem dropDline_hit {s : State} {w : Word} (h : HitsDline s w) : s.dropDline w = s.setDline w .invalid := by
  obtain ⟨hc, d, hd⟩ := h
  simp [State.dropDline, hc, hd]

theorem dropDline_other {s : State} {w : Word} (h : ¬ HitsDline s w) : s.dropDline w = s := by
  unfold State.dropDline
  split
  · rename_i hc
    split
    · rename_i tag d hl
      split
      · rename_i ht
        exact absurd ⟨hc, d, ht ▸ hl⟩ h
      · rfl
    · rfl
  · rfl

theorem partStore_of {s : State} {w a : Word} {l : List Byte} {kind : RegionKind}
    (h : s.regionOf a.toNat l.length = .ok kind) :
    ∃ u, s.busWrite a l = .ok u ∧ PartStored s (u.dropDline w).advanced w a l kind := by
  obtain ⟨m, hm, hram, hother⟩ := busWrite_of h
  by_cases hhit : HitsDline s w
  · have hdrop : State.dropDline { s with mem := m } w = State.setDline { s with mem := m } w .invalid :=
      dropDline_hit hhit
    refine ⟨_, hm, ?_⟩
    rw [hdrop]
    exact ⟨rfl, fun hk => storesAt_of (hram hk), fun hk => sameMemory_of (hother hk),
      fun _ => setsDataLine_of rfl rfl, fun hn => absurd hhit hn⟩
  · have hdrop : State.dropDline { s with mem := m } w = { s with mem := m } := dropDline_other hhit
    refine ⟨_, hm, ?_⟩
    rw [hdrop]
    exact ⟨rfl, fun hk => storesAt_of (hram hk), fun hk => sameMemory_of (hother hk), fun hh => absurd hh hhit,
      fun _ => rfl⟩

/-- ST8D, ST8S and STS8S: the base register, %r0, and the store of byte lane `n base` of %r0. -/
theorem store_byte {s : State} {r : RegNum} {base v : Word} {kind : RegionKind} (w : Word → Word) (n : Word → BitVec 2)
    (hp : s.iobyp = false) (h0 : Holds s 0#5 v) (hr : Holds s r base)
    (hk : s.regionOf (byteAddress (w base) (n base)).toNat 1 = .ok kind) :
    ∃ t, s.plain (do let x ← s.readReg r; let y ← s.readReg 0#5; s.byteStore (w x) (n x) y) = .next t ∧
      PartStored s t (w base) (byteAddress (w base) (n base)) [v.extractLsb' (8 * (n base).toNat) 8] kind := by
  obtain ⟨u, hu, hstored⟩ := partStore_of (w := w base) (l := [byteOf v (n base)]) hk
  exact ⟨_, store_next hp hr h0 (by rw [State.byteStore, hu, ok_bind]), hstored⟩

theorem byteStore_unmapped {s : State} {w : Word} {n : BitVec 2} (v : Word) (h : Unmapped s (byteAddress w n) 1) :
    s.byteStore w n v = .error .unmapped := by
  rw [State.byteStore, busWrite_unmapped (l := [byteOf v n]) h, error_bind]

/-- The same where no region of the map holds the byte. -/
theorem store_byte_unmapped {s : State} {r : RegNum} {base v : Word} (w : Word → Word) (n : Word → BitVec 2)
    (hp : s.iobyp = false) (h0 : Holds s 0#5 v) (hr : Holds s r base)
    (hm : Unmapped s (byteAddress (w base) (n base)) 1) :
    s.plain (do let x ← s.readReg r; let y ← s.readReg 0#5; s.byteStore (w x) (n x) y) = .fault .unmapped :=
  store_fault hp hr h0 (byteStore_unmapped v hm)

/-- Settles O47: `store_byte` and `store_byte_unmapped` for the three lanes. -/
theorem byteStoreResult : Obligations.ByteStoreResult := by
  intro s a n imm base v kind hp h0
  exact ⟨decode_encode (.st8d a) rfl, store_byte (fun x => align32 (x + prefixOffset s.k)) byteLane hp h0,
    store_byte_unmapped (fun x => align32 (x + prefixOffset s.k)) byteLane hp h0,
    decode_encode (.st8s a n) rfl, store_byte (fun x => align32 (x + prefixOffset s.k)) (fun _ => n) hp h0,
    store_byte_unmapped (fun x => align32 (x + prefixOffset s.k)) (fun _ => n) hp h0,
    decode_encode (.sts8s imm) rfl, store_byte (stackByteWord · imm) (fun _ => stackByteLane imm) hp h0,
    store_byte_unmapped (stackByteWord · imm) (fun _ => stackByteLane imm) hp h0⟩

/-- A field of a field is a field of the whole. -/
theorem extract_extract {n : Nat} (x : BitVec n) {s l t m : Nat} (h : t + m ≤ l) :
    (x.extractLsb' s l).extractLsb' t m = x.extractLsb' (s + t) m := by
  apply BitVec.eq_of_getLsbD_eq
  intro i hi
  simp only [BitVec.getLsbD_extractLsb', decide_eq_true (show t + i < l by omega), Bool.true_and, Nat.add_assoc]

theorem halfBytes_halfOf (v : Word) (n : BitVec 1) :
    halfBytes (halfOf v n) = [v.extractLsb' (16 * n.toNat) 8, v.extractLsb' (16 * n.toNat + 8) 8] := by
  simp only [halfBytes, halfOf, extract_extract v (show 0 + 8 ≤ 16 by decide),
    extract_extract v (show 8 + 8 ≤ 16 by decide), Nat.add_zero]

/-- ST16D, ST16S and STS16S: the base register, %r0, and the store of half-word lane `n base` of %r0. -/
theorem store_half {s : State} {r : RegNum} {base v : Word} {kind : RegionKind} (w : Word → Word) (n : Word → BitVec 1)
    (hp : s.iobyp = false) (h0 : Holds s 0#5 v) (hr : Holds s r base)
    (hk : s.regionOf (halfAddress (w base) (n base)).toNat 2 = .ok kind) :
    ∃ t, s.plain (do let x ← s.readReg r; let y ← s.readReg 0#5; s.halfStore (w x) (n x) y) = .next t ∧
      PartStored s t (w base) (halfAddress (w base) (n base))
        [v.extractLsb' (16 * (n base).toNat) 8, v.extractLsb' (16 * (n base).toNat + 8) 8] kind := by
  obtain ⟨u, hu, hstored⟩ := partStore_of (w := w base) (l := halfBytes (halfOf v (n base))) hk
  rw [halfBytes_halfOf] at hstored
  exact ⟨_, store_next hp hr h0 (by rw [State.halfStore, hu, ok_bind]), hstored⟩

theorem halfStore_unmapped {s : State} {w : Word} {n : BitVec 1} (v : Word) (h : Unmapped s (halfAddress w n) 2) :
    s.halfStore w n v = .error .unmapped := by
  rw [State.halfStore, busWrite_unmapped (l := halfBytes (halfOf v n)) h, error_bind]

/-- The same where no region of the map holds the bytes. -/
theorem store_half_unmapped {s : State} {r : RegNum} {base v : Word} (w : Word → Word) (n : Word → BitVec 1)
    (hp : s.iobyp = false) (h0 : Holds s 0#5 v) (hr : Holds s r base)
    (hm : Unmapped s (halfAddress (w base) (n base)) 2) :
    s.plain (do let x ← s.readReg r; let y ← s.readReg 0#5; s.halfStore (w x) (n x) y) = .fault .unmapped :=
  store_fault hp hr h0 (halfStore_unmapped v hm)

/-- Settles O48: `store_half` and `store_half_unmapped` for the three lanes. -/
theorem halfStoreResult : Obligations.HalfStoreResult := by
  intro s a n imm base v kind hp h0
  exact ⟨decode_encode (.st16d a) rfl, store_half (fun x => align32 (x + prefixOffset s.k)) halfLane hp h0,
    store_half_unmapped (fun x => align32 (x + prefixOffset s.k)) halfLane hp h0,
    decode_encode (.st16s a n) rfl, store_half (fun x => align32 (x + prefixOffset s.k)) (fun _ => n) hp h0,
    store_half_unmapped (fun x => align32 (x + prefixOffset s.k)) (fun _ => n) hp h0,
    decode_encode (.sts16s imm) rfl, store_half (stackHalfWord · imm) (fun _ => stackHalfLane imm) hp h0,
    store_half_unmapped (stackHalfWord · imm) (fun _ => stackHalfLane imm) hp h0⟩

end Sys2Proof.Machine

/-! Windows, exceptions and control registers (45_window_trap_control.md): the whole next states of SAVE, RESTORE, TRAP, TRET,
RDCTL and WRCTL, and the return from a trap. -/

namespace Sys2Proof.Machine

/-! ## SAVE, RESTORE and TRAP (R290 to R292) -/

/-- The vector of exception 1 lies one word above VECBASE. -/
theorem vectorOffset_one : (1#6).setWidth 32 * 4#32 = 4#32 := rfl

/-- The vector of exception 2 lies two words above VECBASE. -/
theorem vectorOffset_two : (2#6).setWidth 32 * 4#32 = 8#32 := rfl

theorem exec_save_underflows {s : State} {fp : Word} (imm : BitVec 8) (hp : s.iobyp = false) (hu : Underflows s)
    (hfp : s.regs[phys (s.status.cwp - 1#5) 30#5]? = some fp) :
    exec (.save imm) s = finish ((s.opened (fp - stackOffset imm)).enter 1#6 s.nextPc false) := by
  rw [exec_save_of imm hp hfp, if_pos (underflows_iff.mpr hu)]

/-- %o7 of the window SAVE opens exists where its %fp does. -/
theorem opened_o7_lt {s : State} {fp : Word} (sp : Word) (hfp : s.regs[phys (s.status.cwp - 1#5) 30#5]? = some fp) :
    phys (s.opened sp).status.cwp 15#5 < (s.opened sp).regs.length := by
  have hlt : phys (s.status.cwp - 1#5) 30#5 < s.regs.length := (List.getElem?_eq_some_iff.mp hfp).1
  have ho7 : phys (s.status.cwp - 1#5) 15#5 < phys (s.status.cwp - 1#5) 30#5 := by
    rw [phys_windowed _ (by decide), phys_windowed _ (by decide)]
    exact Nat.add_lt_add_left (by decide) _
  exact (ho7.trans hlt).trans_eq List.length_set.symm

/-- Settles O54: `exec_save_of`, and `enter_of` or `enter_unmapped` where the window opened is the lowest. -/
theorem saveResult : Obligations.SaveResult := by
  intro s imm fp hp d st r hfp
  have ho7 := opened_o7_lt (fp - stackOffset imm) hfp
  refine ⟨decode_encode (.save imm) rfl, fun hn => ?_, fun hlo hie hipri v f hv => ?_, fun hlo hie hipri hm => ?_⟩
  · rw [exec_save_of imm hp hfp, if_neg (mt underflows_iff.mp hn)]
    rfl
  · rw [← vectorOffset_one] at hv
    rw [exec_save_underflows imm hp ⟨hlo, hie, hipri⟩ hfp, enter_of (dec := false) ho7 hv]
    rfl
  · rw [← vectorOffset_one] at hm
    rw [exec_save_underflows imm hp ⟨hlo, hie, hipri⟩ hfp, enter_unmapped (dec := false) ho7 hm, finish_error]

theorem exec_restore_overflows {s : State} (hp : s.iobyp = false) (ho : Overflows s) :
    exec .restore s = finish (s.reopened.enter 2#6 s.nextPc true) := by
  rw [exec_restore_of hp, if_pos (overflows_iff.mpr ho)]

/-- Exception 2 is handled in the window RESTORE left. -/
theorem reopened_o7_lt {s : State} (h : RegExists s 15#5) :
    phys (s.reopened.status.cwp - 1#5) 15#5 < s.reopened.regs.length := by
  have hcwp : s.reopened.status.cwp - 1#5 = s.status.cwp := BitVec.add_sub_cancel _ _
  rw [hcwp]
  exact h

/-- Settles O55: `exec_restore_of`, and `enter_of` or `enter_unmapped` where the window left is the highest. -/
theorem restoreResult : Obligations.RestoreResult := by
  intro s hp st
  refine ⟨decode_encode .restore rfl, fun hn => ?_, fun hhi hie hipri ho7 v f hv => ?_, fun hhi hie hipri ho7 hm => ?_⟩
  · rw [exec_restore_of hp, if_neg (mt overflows_iff.mp hn)]
    rfl
  · rw [← vectorOffset_two] at hv
    rw [exec_restore_overflows hp ⟨hhi, hie, hipri⟩, enter_of (dec := true) (reopened_o7_lt ho7) hv]
    exact congrArg Host.Outcome.next (inHandler_reopened s 2#6 s.nextPc v f)
  · rw [← vectorOffset_two] at hm
    rw [exec_restore_overflows hp ⟨hhi, hie, hipri⟩, enter_unmapped (dec := true) (reopened_o7_lt ho7) hm, finish_error]

/-- Settles O56: `exec_trap_of`, then `enter_of` or `enter_unmapped`. -/
theorem trapResult : Obligations.TrapResult := by
  intro s n hp hd hn ho7
  refine ⟨decode_encode (.trap n) rfl, fun v f hv => ?_, fun hm => ?_⟩
  · rw [exec_trap_of hp hd hn, enter_of (dec := true) ho7 hv]
    rfl
  · rw [exec_trap_of hp hd hn, enter_unmapped (dec := true) ho7 hm, finish_error]

/-! ## TRET, and the return from a trap (R293, R340) -/

/-- Settles O57: `transfer_of`; the state TRET leaves is the one written out. -/
theorem tretResult : Obligations.TretResult := by
  intro s a x hp hd ha
  exact ⟨decode_encode (.tret a) rfl, transfer_of hd hp (by rw [readReg_of_holds ha, ok_bind]; rfl)⟩

theorem exec_tret_next {s t : State} {a : RegNum} (h : exec (.tret a) s = .next t) :
    ∃ x, Holds s a x ∧ t = s.leave (codeAddress x) := by
  obtain ⟨-, -, h⟩ := transfer_next h
  obtain ⟨x, hx, h⟩ := bind_ok.mp h
  exact ⟨x, readReg_iff.mp hx, (Except.ok.inj h).symm⟩

theorem exec_trap_next {s t : State} {n : BitVec 6} (h : exec (.trap n) s = .next t) :
    ∃ v f, t = s.inHandler s.status (s.status.cwp - 1#5) n (s.pc + 2#32) v f := by
  cases effect_of_exec h with
  | ordinary hi => cases hi
  | trap => exact ⟨_, _, rfl⟩

/-- The return address in %o7 is exact for even addresses (R335, R340). -/
theorem codeAddress_returnAddress {a : Word} (h : a.getLsbD 0 = false) : codeAddress (returnAddress a) = a := by
  apply BitVec.eq_of_toNat_eq
  have heven := (even_iff_bit0 a).mp h
  have ha := a.isLt
  rw [codeAddress, returnAddress, BitVec.toNat_shiftLeft, BitVec.toNat_ushiftRight, Nat.shiftRight_eq_div_pow,
    Nat.shiftLeft_eq]
  omega

/-- %o7 in the handler holds the return address. -/
theorem holds_o7_inHandler {s : State} {saved : Status} {w : BitVec 5} {n : BitVec 6} {ret v x : Word} {f : Nat}
    (h : Holds (s.inHandler saved w n ret v f) 15#5 x) : x = returnAddress ret := by
  have hset : (s.regs.set (phys w 15#5) (returnAddress ret))[phys w 15#5]? = some x := h
  obtain ⟨hlt, hx⟩ := List.getElem?_eq_some_iff.mp hset
  exact hx.symm.trans (List.getElem_set_self hlt)

theorem Status.present_of {c : Config} {st : Status} (hdc : st.dc = true → c.hasDCache = true)
    (hic : st.ic = true → c.hasICache = true) : st.present c = st := by
  have habsent : ∀ {b d : Bool}, (b = true → d = true) → (b && d) = b := by decide
  rw [Status.present, habsent hdc, habsent hic]

/-- Settles O58: %o7 holds the return address, ISTATUS the STATUS of before, and TRET goes back to both. -/
theorem trapReturn : Obligations.TrapReturn := by
  intro s t u n hpc hdc hic ht hu
  obtain ⟨v, f, rfl⟩ := exec_trap_next ht
  obtain ⟨x, hx, rfl⟩ := exec_tret_next hu
  obtain rfl := holds_o7_inHandler hx
  exact ⟨codeAddress_returnAddress (add_even hpc rfl), Status.present_of hdc hic, fun _ => rfl,
    fun p hp => List.getElem?_set_ne hp.symm⟩

/-! ## RDCTL (R294) -/

theorem Status.toWord_eq_append (st : Status) : st.toWord = 0#14 ++ st.bits := BitVec.setWidth_eq_append (by decide)

theorem Wvalid.toWord_eq_append (w : Wvalid) : w.toWord = 0#22 ++ w.hiLimit ++ w.loLimit :=
  (BitVec.setWidth_eq_append (by decide)).trans BitVec.append_assoc.symm

theorem exec_rdctl_of {s : State} {a : RegNum} {x : Word} (hp : s.iobyp = false) (ha : RegExists s a)
    (hx : s.readCtl = .ok (x, s)) : exec (.rdctl a) s = .next (s.withReg a x).advanced :=
  plain_advanced hp (by rw [hx, ok_bind]; exact writeReg_of_exists x ha)

/-- A write-only register reads as a free value (U6, U7, U8). -/
theorem readCtl_writeOnly {s : State} (hk : s.k = 5#11 ∨ s.k = 7#11 ∨ s.k = 8#11 ∨ s.k = 9#11) :
    s.readCtl = .ok (Config.freeWord s.freeCtr, s.drawFree) := by
  rcases hk with hk | hk | hk | hk
  all_goals
    rw [State.readCtl, hk]
    rfl

/-- Settles O59, register by register. -/
theorem rdctlResult : Obligations.RdctlResult := by
  intro s a hp ha word
  have hword : ∀ st, Status.toWord st = word st := Status.toWord_eq_append
  have hcpuId : s.cfg.cpuId.setWidth 32 = 0#16 ++ s.cfg.cpuId := BitVec.setWidth_eq_append (by decide)
  rw [← hword, ← hword, ← Wvalid.toWord_eq_append, ← hcpuId]
  refine ⟨decode_encode (.rdctl a) rfl, fun hk => exec_rdctl_of hp ha ?_, fun hk => exec_rdctl_of hp ha ?_,
    fun hk => exec_rdctl_of hp ha ?_, fun hk => exec_rdctl_of hp ha ?_, fun hk => ?_⟩
  case refine_5 =>
    refine plain_advanced hp (u := { s.withReg a (Config.freeWord s.freeCtr) with freeCtr := s.freeCtr + 1 }) ?_
    rw [readCtl_writeOnly hk, ok_bind]
    exact writeReg_of_exists (s := s.drawFree) _ ha
  all_goals
    rw [State.readCtl, hk]
    rfl

/-! ## WRCTL (R295, R296) -/

section
variable {s : State} {a : RegNum} {v : Word}

theorem exec_wrctl_of {u : State} (hp : s.iobyp = false) (ha : Holds s a v) (hu : s.writeCtl v = .ok u) :
    exec (.wrctl a) s = .next u.advanced :=
  plain_advanced hp (by rw [readReg_of_holds ha, ok_bind, hu])

theorem exec_wrctl_error {e : Fault} (hp : s.iobyp = false) (ha : Holds s a v) (he : s.writeCtl v = .error e) :
    exec (.wrctl a) s = .fault e :=
  plain_error hp (by rw [readReg_of_holds ha, ok_bind, he])

theorem writeCtl_two (hk : s.k = 2#11) :
    s.writeCtl v = .ok (if s.cfg.wvalidWritable then s.setWvalid (Wvalid.ofWord v) else s) := by
  rw [State.writeCtl, hk]
  rfl

theorem writeCtl_five (hk : s.k = 5#11) : s.writeCtl v = s.writeICache v := by
  rw [State.writeCtl, hk]
  rfl

theorem writeCtl_seven (hk : s.k = 7#11) : s.writeCtl v = s.writeDCache v := by
  rw [State.writeCtl, hk]
  rfl

/-- Line invalidation of the instruction cache (R108). -/
theorem wrctl_icache (hp : s.iobyp = false) (ha : Holds s a v) (hk : s.k = 5#11) :
    (s.cfg.hasICache = false → exec (.wrctl a) s = .next s.advanced) ∧
      (s.cfg.hasICache = true → s.status.ic = true → exec (.wrctl a) s = .fault .icacheWriteEnabled) ∧
      (s.cfg.hasICache = true → s.status.ic = false → ∃ t, exec (.wrctl a) s = .next t ∧
        t = State.advanced { s with icache := t.icache } ∧ SetsFetchLine s t v .invalid) := by
  refine ⟨fun hc => exec_wrctl_of hp ha ?_, fun hc hi => exec_wrctl_error hp ha ?_,
    fun hc hi => ⟨_, exec_wrctl_of hp ha (u := s.setIline v .invalid) ?_, rfl, setsFetchLine_of rfl rfl⟩⟩
  · simp [writeCtl_five hk, State.writeICache, hc]
  · simp [writeCtl_five hk, State.writeICache, hc, hi]
  · simp [writeCtl_five hk, State.writeICache, hc, hi]

/-- Line invalidation of the data cache (R103). -/
theorem wrctl_dcache (hp : s.iobyp = false) (ha : Holds s a v) (hk : s.k = 7#11) :
    (s.cfg.hasDCache = false → exec (.wrctl a) s = .next s.advanced) ∧
      (s.cfg.hasDCache = true → s.status.dc = true → exec (.wrctl a) s = .fault .dcacheWriteEnabled) ∧
      (s.cfg.hasDCache = true → s.status.dc = false → ∃ t, exec (.wrctl a) s = .next t ∧
        t = State.advanced { s with dcache := t.dcache } ∧ SetsDataLine s t v .invalid) := by
  refine ⟨fun hc => exec_wrctl_of hp ha ?_, fun hc hd => exec_wrctl_error hp ha ?_,
    fun hc hd => ⟨_, exec_wrctl_of hp ha (u := s.setDline v .invalid) ?_, rfl, setsDataLine_of rfl rfl⟩⟩
  · simp [writeCtl_seven hk, State.writeDCache, hc]
  · simp [writeCtl_seven hk, State.writeDCache, hc, hd]
  · simp [writeCtl_seven hk, State.writeDCache, hc, hd]

end

/-- Settles O60, register by register. -/
theorem wrctlResult : Obligations.WrctlResult := by
  intro s a v hp ha written
  refine ⟨decode_encode (.wrctl a) rfl, fun hk => ?_, fun hk => ?_, fun hk hw => ?_, fun hk hw => ?_, fun hk => ?_,
    fun hk => ?_, wrctl_icache hp ha, wrctl_dcache hp ha⟩
  · exact exec_wrctl_of hp ha (u := s.writeStatus v) (by rw [State.writeCtl, hk]; rfl)
  · exact exec_wrctl_of hp ha (u := s.setIstatus written) (by rw [State.writeCtl, hk]; rfl)
  · exact exec_wrctl_of hp ha (u := s.setWvalid (Wvalid.ofWord v)) (by rw [writeCtl_two hk, hw]; rfl)
  · exact exec_wrctl_of hp ha (by rw [writeCtl_two hk, hw]; rfl)
  · exact exec_wrctl_of hp ha (u := s.setStatus { s.status with ie := false }) (by rw [State.writeCtl, hk]; rfl)
  · exact exec_wrctl_of hp ha (u := s.setStatus { s.status with ie := true }) (by rw [State.writeCtl, hk]; rfl)

end Sys2Proof.Machine

/-! A step, path by path (10_state.md rule R43, 60_exceptions.md rule R326), and the state after reset (70_reset_and_hazards.md
rule R370). -/

namespace Sys2Proof.Machine

/-! ## The two tests before a fetch (R326) -/

/-- The debug module's request: `irq` with number 0. -/
def DebugRequest (t : State) : Prop := t.irq = true ∧ t.irqNumber = 0#6

/-- The interrupt conditions all hold (R326, D5, D22). -/
def Interrupts (t : State) : Prop :=
  t.irq = true ∧ t.status.ie = true ∧ t.irqNumber.toNat < t.status.ipri.toNat ∧
    t.pfx = false ∧ t.delay = none ∧ t.nopdue = false

theorem debugRequested_iff {t : State} : t.debugRequested = true ↔ DebugRequest t := by
  simp [State.debugRequested, DebugRequest]

theorem interruptAccepted_iff {t : State} : t.interruptAccepted = true ↔ Interrupts t := by
  simp [State.interruptAccepted, Interrupts, and_assoc]

/-! ## The paths of a step -/

section
variable {s : State}

theorem step_debug (h : DebugRequest s.sampleInputs) : step s = .refused .debugException :=
  if_pos (debugRequested_iff.mpr h)

theorem step_interrupt (hd : ¬ DebugRequest s.sampleInputs) (h : Interrupts s.sampleInputs) :
    step s = finish (s.sampleInputs.enter s.sampleInputs.irqNumber s.sampleInputs.pc true) :=
  (if_neg (mt debugRequested_iff.mp hd)).trans (if_pos (interruptAccepted_iff.mpr h))

theorem step_runs {i : Instr} {u : State} (hd : ¬ DebugRequest s.sampleInputs) (hi : ¬ Interrupts s.sampleInputs)
    (h : s.sampleInputs.fetchInstr = .ok (i, u)) : step s = exec i u := by
  simp only [step, mt debugRequested_iff.mp hd, mt interruptAccepted_iff.mp hi, h, if_false,
    Bool.false_eq_true]

theorem step_fetch_fault {e : Fault} (hd : ¬ DebugRequest s.sampleInputs) (hi : ¬ Interrupts s.sampleInputs)
    (h : s.sampleInputs.fetchInstr = .error e) : step s = .fault e := by
  simp only [step, mt debugRequested_iff.mp hd, mt interruptAccepted_iff.mp hi, h, if_false,
    Bool.false_eq_true]

/-! ## The fetch of an instruction -/

theorem fetchInstr_fault {e : Fault} (h : s.fetch s.pc = .error e) : s.fetchInstr = .error e := by
  rw [State.fetchInstr, h, error_bind]

/-- A fetch does not touch the NOP due. -/
theorem fetch_nopdue {u : State} {a : Word} {w : Half} (h : s.fetch a = .ok (w, u)) : u.nopdue = s.nopdue := by
  obtain ⟨d, f, rfl⟩ := fetch_frame h
  rfl

theorem fetchInstr_noNop {u : State} {w : Half} (h : s.fetch s.pc = .ok (w, u)) (hn : s.nopdue = true)
    (hw : w ≠ 0x3000#16) : s.fetchInstr = .error .wrctlStatusNoNop := by
  simp [State.fetchInstr, h, fetch_nopdue h, hn, hw]

/-- With no NOP missing, the fetched word is decoded. -/
theorem fetchInstr_decodes {u : State} {w : Half} (h : s.fetch s.pc = .ok (w, u))
    (hn : s.nopdue = true → w = 0x3000#16) :
    s.fetchInstr = (instrOf w).bind fun i => .ok (i, u.setNopdue false) := by
  have hpass : ¬ (u.nopdue && w != 0x3000#16) = true := by simpa [fetch_nopdue h] using hn
  rw [State.fetchInstr, h, ok_bind]
  exact if_neg hpass

theorem instrOf_of {w : Half} {i : Instr} (h : decode w = .ok i) : instrOf w = .ok i := by
  rw [instrOf, h]

theorem instrOf_error {w : Half} {e} (h : decode w = .error e) : instrOf w = .error .reservedOpcode := by
  rw [instrOf, h]

end

/-! ## The statements about a step -/

/-- Settles O5: `step_runs` with the word decoded; `wordOf_decode` for the well-formedness. -/
theorem stepRunsDecodedInstruction : Obligations.StepRunsDecodedInstruction := by
  rintro s t u w i rfl hdebug hirq hf hnop hi
  obtain ⟨hwf, -⟩ := wordOf_decode hi
  obtain ⟨d, f, rfl⟩ := fetch_frame hf
  refine ⟨hwf, rfl, step_runs hdebug hirq ?_⟩
  rw [fetchInstr_decodes hf hnop, instrOf_of hi]
  rfl

/-- Settles O6: `step_interrupt`, then `enter_of`. -/
theorem stepTakesInterrupt : Obligations.StepTakesInterrupt := by
  rintro s t v f rfl hirq hn hie hlt hpfx hdelay hnop ho7 hv
  rw [step_interrupt (fun hd => hn hd.2) ⟨hirq, hie, hlt, hpfx, hdelay, hnop⟩, enter_of (dec := true) ho7 hv, finish_ok]
  rfl

/-- Settles O7: one path of the step, and one of the fetch or of the entry, for each stop. -/
theorem stepStops : Obligations.StepStops := by
  rintro s t rfl
  refine ⟨step_debug, fun hdebug hirq => ⟨fun e hf => ?_, fun w u hf hn hw => ?_, fun w u e hf hn he => ?_⟩,
    fun hirq hn hie hlt hpfx hdelay hnop => ?_⟩
  · exact step_fetch_fault hdebug hirq (fetchInstr_fault hf)
  · exact step_fetch_fault hdebug hirq (fetchInstr_noNop hf hn hw)
  · refine step_fetch_fault hdebug hirq ?_
    rw [fetchInstr_decodes hf (fun hdue => absurd hdue (by simp [hn])), instrOf_error he]
    rfl
  · rw [step_interrupt (fun hd => hn hd.2) ⟨hirq, hie, hlt, hpfx, hdelay, hnop⟩]
    refine ⟨fun ho7 => ?_, fun ho7 hm => ?_⟩
    · rw [enter_missing (dec := true) ho7, finish_error]
    · rw [enter_unmapped (dec := true) ho7 hm, finish_error]

/-! ## The state after reset (R370) -/

theorem resetAddr_even {c : Config} (h : c.valid = true) : c.resetAddr.getLsbD 0 = false := by
  simp only [Config.valid, Bool.and_eq_true, beq_iff_eq] at h
  obtain ⟨⟨⟨⟨⟨-, heven⟩, -⟩, -⟩, -⟩, -⟩ := h
  exact heven

theorem sound_resetOf {c : Config} (h : c.valid = true) : Sound (State.resetOf c) where
  config := h
  memory := rfl
  registers := List.length_replicate
  pcEven := resetAddr_even h
  delayEven _ ht := nomatch ht
  kOnlyAfterPrefix _ := rfl
  iobypIsPrefix hp := nomatch hp
  prefixNotInSlot _ := rfl
  nopdueAlone hn := nomatch hn
  dcPresent hd := nomatch hd
  icPresent hi := nomatch hi
  savedDcPresent hd := nomatch hd
  savedIcPresent hi := nomatch hi
  dcacheForm := rfl
  dcacheLines _ he := nomatch he
  icacheForm := rfl
  icacheLines _ he := nomatch he

/-- Every vector of the standard configuration lies in its one region. -/
theorem standard_valid : Config.standard.valid = true := by decide

/-- Settles O9. -/
theorem invariantReset : Obligations.InvariantReset := ⟨fun _ => sound_resetOf, sound_resetOf standard_valid⟩

/-- CWP and HI_LIMIT after reset: the highest window that lies whole in the file (R9). -/
theorem hiLimitReset_eq (c : Config) :
    c.hiLimitReset = match c.regFile with | .regs128 => 6#5 | .regs256 => 14#5 | .regs512 => 30#5 := by
  rw [Config.hiLimitReset]
  cases c.regFile with
  | regs128 | regs256 | regs512 => rfl

theorem zero_toWord : Status.zero.toWord = 0#32 := by decide

/-- Settles O10: the window by `hiLimitReset_eq`, all else as `State.resetOf` writes it. -/
theorem resetValues : Obligations.ResetValues := fun c =>
  ⟨rfl, rfl, rfl, rfl, hiLimitReset_eq c, zero_toWord, rfl, rfl, rfl, rfl, rfl, rfl, rfl, rfl, fun _ => rfl, fun _ => rfl⟩

end Sys2Proof.Machine
